-- ==== Sys2Proof/Word.lean ====
section
/-! DEFINITION. The word types of the Ulgoda 2316: bytes on the link, and the 16-bit and 32-bit fields of
frames, records, counters and the checkpoint image (spec 00_scope.md, "Byte order"; R155, R161, R177). -/
namespace Sys2Proof

/-- One byte of a frame, a record, the status block or an image. -/
abbrev Byte := BitVec 8

/-- A 16-bit field: generations (R1), parameters (R171), wear (R25), handles (R57), arguments (R155). -/
abbrev Word16 := BitVec 16

/-- A 32-bit field: the tick counter (R53), the counters (R177), the durable generation (R93). -/
abbrev Word32 := BitVec 32

end Sys2Proof
end

