-- ==== Sys2Proof/Config.lean ====
section
/-! DEFINITION. What the part fixes (deadlines of R118, parameter defaults and ranges of R171, capacities of
00_scope.md) and the model's one free value, which has no body: nothing can be proved of its
values. -/
namespace Sys2Proof.Config

/-- Array operation deadlines in ticks (R118). -/
def deadlineIdentify : Nat := 100
def deadlineReset : Nat := 1000
def deadlineErase : Nat := 40
def deadlineCopy : Nat := 120
def deadlineReadImage : Nat := 200
def deadlineWriteImage : Nat := 400

/-- Parameter defaults (R171). -/
def defaultTHold : Word16 := 2000
def defaultEMax : Word16 := 3000
def defaultWSpread : Word16 := 256
def defaultCAuto : Word16 := 64
def defaultSMin : Word16 := 32

/-- Capacities (00_scope.md, "Capacities at a glance"; R155, R156, R146). -/
def maxOpen : Nat := 16
def maxRecords : Nat := 32
def minUnitCount : Nat := 64
def maxUnitCount : Nat := 1024
def maxLogicals : Nat := 4086

/-- FREE VALUE (log 6). Of an image operation and an erase that arrive in one claim at an idle ONLINE channel,
whether the erase reaches the arbiter first: R121 lets either be first. Applied to the tick and the channel. -/
opaque eraseReachesFirst : Word32 → Fin 4 → Bool

end Sys2Proof.Config
end

