-- ==== Sys2Proof/Syntax.lean ====
section
/-! DEFINITION. The commands of the block: one constructor of `Instr` per row of spec/opcode_table.json, with the
operands that reach the part from outside (a frame, a channel, a die's reply, a hold slot). Request rows carry no
operands of their own: the frame they act on stands in the intake list of the host link (R157). -/
namespace Sys2Proof

/-- The eight bytes of a request frame as they arrive on MOSI (R155). -/
structure RawFrame where
  b0 : Byte
  b1 : Byte
  b2 : Byte
  b3 : Byte
  b4 : Byte
  b5 : Byte
  b6 : Byte
  b7 : Byte
deriving DecidableEq, Repr

/-- A request frame's fields (R155, frame table). -/
structure Frame where
  code : Byte
  tag : Byte
  flags : Byte
  selector : Byte
  argA : Word16
  argB : Word16
deriving DecidableEq, Repr

/-- The seventeen request codes 0x01 to 0x11 (R155). -/
inductive ReqCode where
  | lookup | bind | unbind | move | release | renew | retire | queryUnit | checkpoint | restartChannel
  | enterService | leaveService | format | getParameter | setParameter | readCounter | clearCounters
deriving DecidableEq, Repr

/-- The replies a die can send (R118, R124). A DONE that carries bytes carries their count as the list's length. -/
inductive Reply where
  | done
  | doneBytes (bytes : List Byte)
  | failErase
  | failProgram
  | failRead
  | ident (count : Word16)
deriving DecidableEq, Repr

/-- The four kinds of transaction (R154). -/
inductive TransactionKind where
  | request | fetch | status | linkReset
deriving DecidableEq, Repr

/-- A transaction that has no effect but its count (R154): an unknown kind byte followed by `n` more bytes, or a
known kind cut short after `n` whole bytes of what follows the kind byte. -/
inductive Discard where
  | unknownKind (kind : Byte) (n : Nat)
  | cutRequest (n : Fin 8)
  | cutFetch (n : Fin 12)
  | cutStatus (n : Fin 32)
deriving DecidableEq, Repr

/-- The commands: one constructor per row of spec/opcode_table.json, in the table's order. `extra` is the number of
bytes the host clocks after the point of effect (R154); `c` is an array channel 0 to 3. -/
inductive Instr where
  | hardwareReset
  | resetNRelease
  | tick
  | holdExpiry (slot : Fin 64)
  | operationDeadline (c : Fin 4)
  | request (raw : RawFrame) (extra : Nat)
  | fetch (extra : Nat)
  | status (extra : Nat)
  | linkReset (extra : Nat)
  | transactionDiscarded (d : Discard)
  | lookup
  | bind
  | unbind
  | move
  | release
  | renew
  | retire
  | queryUnit
  | checkpoint
  | restartChannel
  | enterService
  | leaveService
  | format
  | getParameter
  | setParameter
  | readCounter
  | clearCounters
  | eraseDone (c : Fin 4)
  | eraseFail (c : Fin 4)
  | copyDone (c : Fin 4)
  | copyFailProgram (c : Fin 4)
  | copyFailRead (c : Fin 4)
  | slotEraseDone (c : Fin 4)
  | slotEraseFail (c : Fin 4)
  | writeImageDone (c : Fin 4)
  | writeImageFail (c : Fin 4)
  | readImageDone (c : Fin 4) (bytes : List Byte)
  | readImageFail (c : Fin 4)
  | probeResetDone (c : Fin 4)
  | probeIdent (c : Fin 4) (count : Word16)
  | restartResetDone (c : Fin 4)
  | restartIdent (c : Fin 4) (count : Word16)
  | formatSlotEraseDone (c : Fin 4)
  | formatSlotEraseFail (c : Fin 4)
  | unacceptedReply (c : Fin 4) (r : Reply)
  | strayReply (c : Fin 4) (r : Reply)
  | formatUnitReset
deriving DecidableEq, Repr

end Sys2Proof
end

