-- ==== Sys2Proof/Decode.lean ====
section
/-! DEFINITION. The link's encodings: byte order (00_scope.md, "Byte order"), the kind byte and the bytes of a transaction
(R154), the request frame (R155), and `decodeTableWord`. No row of spec/opcode_table.json gives bits, so no table word spells a command. -/
namespace Sys2Proof

/-- The byte at the lower offset of a 16-bit field (little-endian). -/
def lo8 (w : Word16) : Byte := w.extractLsb' 0 8

/-- The byte at the higher offset of a 16-bit field. -/
def hi8 (w : Word16) : Byte := w.extractLsb' 8 8

/-- The 16-bit field whose lower-offset byte is `lo`. -/
def join16 (lo hi : Byte) : Word16 := hi ++ lo

/-- The lower half of a 32-bit field. -/
def loWord (w : Word32) : Word16 := w.extractLsb' 0 16

/-- The higher half of a 32-bit field. -/
def hiWord (w : Word32) : Word16 := w.extractLsb' 16 16

/-- The 32-bit field whose lower-offset half is `lo`. -/
def join32 (lo hi : Word16) : Word32 := hi ++ lo

/-- A 16-bit field as the link and the image carry it. -/
def le16 (w : Word16) : List Byte := [lo8 w, hi8 w]

/-- A 32-bit field as the link and the image carry it. -/
def le32 (w : Word32) : List Byte := le16 (loWord w) ++ le16 (hiWord w)

/-- R155: the fields of a frame from its eight bytes. -/
def decodeFrame (r : RawFrame) : Frame :=
  ⟨r.b0, r.b1, r.b2, r.b3, join16 r.b4 r.b5, join16 r.b6 r.b7⟩

/-- R155: the eight bytes of a frame. -/
def encodeFrame (f : Frame) : RawFrame :=
  ⟨f.code, f.tag, f.flags, f.selector, lo8 f.argA, hi8 f.argA, lo8 f.argB, hi8 f.argB⟩

/-- R155: flag bit 0, HOLD for LOOKUP and BIND, KEEP_WEAR for FORMAT. -/
def Frame.flag0 (f : Frame) : Bool := f.flags.getLsbD 0

/-- R155: argument A as a logical or a unit number. -/
def Frame.number (f : Frame) : Nat := f.argA.toNat

/-- R155: the request a code byte names; none outside 0x01 to 0x11. -/
def decodeReqCode (b : Byte) : Option ReqCode :=
  match b.toNat with
  | 0x01 => some .lookup
  | 0x02 => some .bind
  | 0x03 => some .unbind
  | 0x04 => some .move
  | 0x05 => some .release
  | 0x06 => some .renew
  | 0x07 => some .retire
  | 0x08 => some .queryUnit
  | 0x09 => some .checkpoint
  | 0x0A => some .restartChannel
  | 0x0B => some .enterService
  | 0x0C => some .leaveService
  | 0x0D => some .format
  | 0x0E => some .getParameter
  | 0x0F => some .setParameter
  | 0x10 => some .readCounter
  | 0x11 => some .clearCounters
  | _ => none

/-- R155: the code byte of a request. -/
def encodeReqCode : ReqCode → Byte
  | .lookup => 0x01
  | .bind => 0x02
  | .unbind => 0x03
  | .move => 0x04
  | .release => 0x05
  | .renew => 0x06
  | .retire => 0x07
  | .queryUnit => 0x08
  | .checkpoint => 0x09
  | .restartChannel => 0x0A
  | .enterService => 0x0B
  | .leaveService => 0x0C
  | .format => 0x0D
  | .getParameter => 0x0E
  | .setParameter => 0x0F
  | .readCounter => 0x10
  | .clearCounters => 0x11

/-! ### Transactions -/

/-- R154: the transaction a kind byte starts; none for any other value. -/
def decodeKind (b : Byte) : Option TransactionKind :=
  match b.toNat with
  | 0x01 => some .request
  | 0x02 => some .fetch
  | 0x03 => some .status
  | 0x04 => some .linkReset
  | _ => none

/-- R154: the kind byte of a transaction. -/
def encodeKind : TransactionKind → Byte
  | .request => 0x01
  | .fetch => 0x02
  | .status => 0x03
  | .linkReset => 0x04

/-- R154, R155: a REQUEST after whose kind byte the bytes `bs` came in: eight make the frame, fewer cut it short. -/
def requestOf (bs : List Byte) : Instr :=
  if h : bs.length < 8 then .transactionDiscarded (.cutRequest ⟨bs.length, h⟩)
  else
    .request ⟨bs.getD 0 0, bs.getD 1 0, bs.getD 2 0, bs.getD 3 0, bs.getD 4 0, bs.getD 5 0, bs.getD 6 0, bs.getD 7 0⟩
      (bs.length - 8)

/-- R154, R160: a FETCH of which `n` bytes were clocked after the kind byte. -/
def fetchOf (n : Nat) : Instr :=
  if h : n < 12 then .transactionDiscarded (.cutFetch ⟨n, h⟩) else .fetch (n - 12)

/-- R154, R166: a STATUS of which `n` bytes were clocked after the kind byte. -/
def statusOf (n : Nat) : Instr :=
  if h : n < 32 then .transactionDiscarded (.cutStatus ⟨n, h⟩) else .status (n - 32)

/-- R154: the command that a transaction is, from the whole bytes that came in on MOSI between the fall and the rise of
CS_N. The first is the kind; a transaction without one has not begun, and is none. -/
def transactionOf : List Byte → Option Instr
  | [] => none
  | k :: bs =>
    some (match decodeKind k with
      | some .request => requestOf bs
      | some .fetch => fetchOf bs.length
      | some .status => statusOf bs.length
      | some .linkReset => .linkReset bs.length
      | none => .transactionDiscarded (.unknownKind k bs.length))

/-- The command a table word spells. spec/opcode_table.json gives no row any bits, so every word spells none. -/
def decodeTableWord (_nbits _w : Nat) : Option Instr := none

end Sys2Proof
end

