-- ==== Sys2Proof/Machine/State.lean ====
section
/-! DEFINITION. The state of the Ulgoda 2316, as plain data: every record, table, list, counter and mode the spec
names, the pins the model keeps, and the queue of waiting commands. Collections that a unit's state alone decides
(free pool, commit-wait set, retired set: R26) and the level of ATTN_N (R165) are views in Machine/Ops.lean (log 17). -/
namespace Sys2Proof.Machine

/-- The causes of FAILED (R135). -/
inductive FailCause where
  | noMedia | geometry | slot
deriving DecidableEq, Repr

/-- The six device states; the cause stands in FAILED only (R135). -/
inductive DeviceState where
  | starting | unformatted | formatting | ready | service
  | failed (cause : FailCause)
deriving DecidableEq, Repr

/-- The two slots (00_scope.md, Terms). -/
inductive Slot where
  | a | b
deriving DecidableEq, Repr

/-- Who is told the end of a restart or of a FORMAT (R116, R135). -/
inductive Origin where
  | host (tag : Byte)
  | orphaned
deriving DecidableEq, Repr

/-- What a start-up READ IMAGE ended with (R139): UNREAD, or the bytes kept for judgement. -/
inductive SlotRead where
  | unread
  | bytes (bs : List Byte)
deriving DecidableEq, Repr

/-- How far start-up has gone (7.2): probing, reading slot A, reading slot B, or over. -/
inductive StartStage where
  | probing | readingA | readingB | ended
deriving DecidableEq, Repr

/-- The start-up sequence of the state control: its stage, and slot A's read once it has ended (R139). -/
structure Startup where
  stage : StartStage
  slotA : Option SlotRead
deriving DecidableEq, Repr

/-- The three steps of a FORMAT (R150). -/
inductive FormatStep where
  | eraseB | eraseA | imageWrite
deriving DecidableEq, Repr

/-- The FORMAT record, held while the device is FORMATTING (R135). -/
structure FormatRec where
  origin : Origin
  l : Word16
  sMin : Word16
  keepWear : Bool
  takenIn : DeviceState
  step : FormatStep
deriving DecidableEq, Repr

/-- The live values of the five parameters (R171). -/
structure Params where
  tHold : Word16
  eMax : Word16
  wSpread : Word16
  cAuto : Word16
  sMin : Word16
deriving DecidableEq, Repr

/-- A logical record (R1): BOUND exactly when it carries a unit; `move` names the channel of its move. -/
structure LogicalRec where
  unit : Option Nat
  generation : Word16
  move : Option (Fin 4)
deriving DecidableEq, Repr

/-- An entry of the bind-waiter list (R16). -/
structure Waiter where
  tag : Byte
  logical : Nat
  hold : Bool
deriving DecidableEq, Repr

/-- Retirement causes (R43). -/
inductive Cause where
  | host | eraseFail | programFail | worn
deriving DecidableEq, Repr

/-- The eight unit states of R26, with the owner in BOUND and TARGET and the cause in RETIRED (R25). -/
inductive UnitState where
  | free | dirty | erasing
  | bound (owner : Nat)
  | target (owner : Nat)
  | draining | waiting
  | retired (cause : Cause)
deriving DecidableEq, Repr

/-- A unit record (R25). -/
structure UnitRec where
  state : UnitState
  wear : Word16
  holds : Nat
  retirePending : Bool
deriving DecidableEq, Repr

/-- A hold-table entry (R55). -/
structure HoldEntry where
  sequence : Byte
  unit : Nat
  logical : Nat
  generation : Word16
  start : Word32
  lifetime : Word16
deriving DecidableEq, Repr

/-- A hold-table slot: its sequence counter, and its entry when it is occupied (R55). -/
structure HoldSlot where
  seq : Byte
  entry : Option HoldEntry
deriving DecidableEq, Repr

/-- Who started a move (R71). -/
inductive MoveOrigin where
  | host (tag : Byte)
  | orphaned | leveling | evacuation
deriving DecidableEq, Repr

/-- How far a move has gone (R71). -/
inductive MovePhase where
  | assigned | copying | abandoning
deriving DecidableEq, Repr

/-- A move record (R71). Its channel is its place in the relocation list, which holds one move per channel. -/
structure Move where
  logical : Nat
  source : Nat
  target : Nat
  origin : MoveOrigin
  phase : MovePhase
  start : Word32
deriving DecidableEq, Repr

/-- Recorded unit states of a snapshot (R98). -/
inductive RecState where
  | free
  | bound (owner : Nat)
  | retired (cause : Cause)
deriving DecidableEq, Repr

/-- A unit as a snapshot or an image records it (R98, R114). -/
structure RecUnit where
  state : RecState
  wear : Word16
  retirePending : Bool
deriving DecidableEq, Repr

/-- A snapshot (R98). `counts` holds each present channel's unit count and 0 for a channel that is not present. -/
structure Snapshot where
  generation : Word32
  target : Slot
  counts : Vector Nat 4
  generations : List Word16
  params : Params
  units : List (Nat × RecUnit)
deriving DecidableEq, Repr

/-- Who is told the outcome of a checkpoint (R93). -/
inductive CkptOrigin where
  | host (tag : Byte)
  | auto | format | orphaned
deriving DecidableEq, Repr

/-- The phases of a checkpoint in flight (R93). -/
inductive CkptPhase where
  | erasingSlot | writing
deriving DecidableEq, Repr

/-- A checkpoint in flight (R93). -/
structure Flight where
  phase : CkptPhase
  origin : CkptOrigin
  target : Slot
  snapshot : Snapshot
deriving DecidableEq, Repr

/-- The checkpoint unit (R93). The phase is IDLE exactly when `flight` is none. -/
structure Ckpt where
  durableGen : Word32
  durableSlot : Option Slot
  durableBound : List Nat
  unconfirmed : List Nat
  flight : Option Flight
deriving DecidableEq, Repr

/-- The states of a channel; undetermined before its start-up probe has ended (R116, R117). -/
inductive ChannelState where
  | undetermined | absent | online | faulted | restarting
deriving DecidableEq, Repr

/-- Why a channel faulted (R116). -/
inductive FaultCause where
  | deadline | protocol
deriving DecidableEq, Repr

/-- The operations a channel controller sends to its die (R118). -/
inductive OpKind where
  | identify
  | reset
  | erase (index : Nat)
  | copy (source target : Nat)
  | readImage (index : Nat)
  | writeImage (index : Nat) (bytes : List Byte)
deriving DecidableEq, Repr

/-- The block that is handed an operation's reply (R116). -/
inductive Owner where
  | unitManager | relocation | checkpoint | stateControl | restart
deriving DecidableEq, Repr

/-- The operation in flight: its kind and indices, its owner, and the start tick of its deadline (R116). -/
structure Op where
  kind : OpKind
  owner : Owner
  start : Word32
deriving DecidableEq, Repr

/-- An image operation placed for a channel and not yet issued (R122). -/
structure ImageWork where
  kind : OpKind
  owner : Owner
deriving DecidableEq, Repr

/-- A channel record (R116) with the channel's pending image operation (R122). -/
structure Channel where
  state : ChannelState
  count : Nat
  inFlight : Option Op
  pendingImage : Option ImageWork
  fault : Option FaultCause
  restart : Option Origin
deriving DecidableEq, Repr

/-- A queued record of twelve bytes (R159): tag, code, status, flags, and bytes 4-5, 6-7, 8-9 and 10-11. -/
structure Record where
  tag : Byte
  code : Byte
  status : Byte
  flags : Byte
  w0 : Word16
  w1 : Word16
  w2 : Word16
  w3 : Word16
deriving DecidableEq, Repr

/-- The seven notice kinds (R164). -/
inductive NoticeKind where
  | started | holdExpired | unitRetired | lowSpares | channelFault | moveResult | checkpointResult
deriving DecidableEq, Repr

/-- A pending notice: its count and its latest detail (R162). -/
structure PendingNotice where
  count : Byte
  detail : Record
deriving DecidableEq, Repr

/-- The host link: completion queue (R159), pending notices by kind (R162), tags of the open requests (R156), and
the request unit's intake list (R157). -/
structure Link where
  queue : List Record
  notices : Vector (Option PendingNotice) 7
  openTags : List Byte
  intake : List Frame
deriving DecidableEq, Repr

/-- The machine's state. `pending` is the queue of commands that wait, first in, first out. -/
structure State where
  pending : List Instr
  resetLow : Bool
  miso : List Byte
  tick : Word32
  device : DeviceState
  startup : Startup
  formatRec : Option FormatRec
  params : Params
  counters : Vector Word32 19
  map : List LogicalRec
  waiters : List Waiter
  units : List (Nat × UnitRec)
  eraseQueues : Vector (List Nat) 4
  holds : Vector HoldSlot 64
  moves : Vector (Option Move) 4
  ckpt : Ckpt
  channels : Vector Channel 4
  link : Link
deriving DecidableEq, Repr

/-- Why a step stops with a fault. -/
inductive Fault where
  /-- Raised by TRANSACTION_DISCARDED for a transaction that R154 does not discard for its kind byte (the term is not
  well formed, so no event of the part is meant). Safe: the model only stops. -/
  | illFormedCommand
deriving DecidableEq, Repr

/-- Why a step is refused. -/
inductive Refusal where
  /-- Raised by `exec` for a command that has no meaning yet, by its mnemonic. Safe: the model only stops. -/
  | notModelled (mnemonic : String)
deriving DecidableEq, Repr

/-- The defaults of R171. -/
def Params.defaults : Params :=
  ⟨Config.defaultTHold, Config.defaultEMax, Config.defaultWSpread, Config.defaultCAuto, Config.defaultSMin⟩

/-- A channel right after hardware reset (R117). -/
def Channel.afterReset : Channel := ⟨.undetermined, 0, none, none, none, none⟩

/-- The machine while RESET_N is held low: every block at its hardware-reset values (R138; R2, R16, R27, R53, R56,
R72, R94, R117, R135, R170, R172, R179). -/
def State.reset : State where
  pending := []
  resetLow := true
  miso := []
  tick := 0
  device := .starting
  startup := ⟨.probing, none⟩
  formatRec := none
  params := Params.defaults
  counters := Vector.replicate 19 0
  map := []
  waiters := []
  units := []
  eraseQueues := Vector.replicate 4 []
  holds := Vector.replicate 64 ⟨0, none⟩
  moves := Vector.replicate 4 none
  ckpt := ⟨0, none, [], [], none⟩
  channels := Vector.replicate 4 Channel.afterReset
  link := ⟨[], Vector.replicate 7 none, [], []⟩

end Sys2Proof.Machine
end

