-- ==== Sys2Proof/Machine/Flags.lean ====
section
/-! DEFINITION. Every code and flag byte the host link reports: completion statuses (R158), the code sets and result
layouts of R161, the notice layouts of R164. Records are built here and nowhere else. -/
namespace Sys2Proof.Machine

/-- Completion statuses (R158). -/
inductive Status where
  | ok | badRequest | outOfRange | wrongState | notBound | noFreeUnit | holdTableFull | staleHold | unitHeld
  | busy | channelDown | alreadyRetired | moveAbandoned | moveFailed | checkpointFailed | restartFailed | formatFailed
deriving DecidableEq, Repr

/-- R158, status table. -/
def Status.byte : Status → Byte
  | .ok => 0 | .badRequest => 1 | .outOfRange => 2 | .wrongState => 3 | .notBound => 4 | .noFreeUnit => 5
  | .holdTableFull => 6 | .staleHold => 7 | .unitHeld => 8 | .busy => 9 | .channelDown => 10
  | .alreadyRetired => 11 | .moveAbandoned => 12 | .moveFailed => 13 | .checkpointFailed => 14
  | .restartFailed => 15 | .formatFailed => 16

/-- Why a move failed or was abandoned (4.5, reason table). -/
inductive MoveReason where
  | none | program | read | channel
deriving DecidableEq, Repr

/-- Why a checkpoint failed (R106, R95). -/
inductive CkptReason where
  | none | erase | program | channel | generation
deriving DecidableEq, Repr

/-- Why a restart failed (R133). -/
inductive RestartReason where
  | deadline | protocol | count
deriving DecidableEq, Repr

/-- Why a FORMAT failed (R150). -/
inductive FormatReason where
  | erase | program | channel
deriving DecidableEq, Repr

/-- How start-up judged a slot (R139, R140, R141). -/
inductive SlotResult where
  | unread | notIntact | intact | valid
deriving DecidableEq, Repr

/-- R161, unit states. -/
def UnitState.byte : UnitState → Byte
  | .free => 0 | .dirty => 1 | .erasing => 2 | .bound _ => 3 | .target _ => 4 | .draining => 5 | .waiting => 6
  | .retired _ => 7

/-- R161, retirement causes. -/
def Cause.byte : Cause → Byte
  | .host => 1 | .eraseFail => 2 | .programFail => 3 | .worn => 4

/-- R161: a unit's cause, 0 unless it is RETIRED. -/
def UnitState.causeByte : UnitState → Byte
  | .retired c => c.byte
  | .free => 0 | .dirty => 0 | .erasing => 0 | .bound _ => 0 | .target _ => 0 | .draining => 0 | .waiting => 0

/-- R25: the owner, present in BOUND and TARGET. -/
def UnitState.owner : UnitState → Option Nat
  | .bound n => some n
  | .target n => some n
  | .free => none | .dirty => none | .erasing => none | .draining => none | .waiting => none | .retired _ => none

/-- R161, channel states. -/
def ChannelState.byte : ChannelState → Byte
  | .undetermined => 0 | .online => 1 | .faulted => 2 | .restarting => 3 | .absent => 4

/-- R161, channel fault causes: 0 for none. -/
def faultByte : Option FaultCause → Byte
  | none => 0 | some .deadline => 1 | some .protocol => 2

/-- R161, move reasons. -/
def MoveReason.code : MoveReason → BitVec 2
  | .none => 0 | .program => 1 | .read => 2 | .channel => 3

/-- R161, checkpoint reasons. -/
def CkptReason.byte : CkptReason → Byte
  | .none => 0 | .erase => 1 | .program => 2 | .channel => 3 | .generation => 4

/-- R161, restart reasons; 0 stands with status OK. -/
def restartReasonByte : Option RestartReason → Byte
  | none => 0 | some .deadline => 1 | some .protocol => 2 | some .count => 3

/-- R161, FORMAT reasons. -/
def FormatReason.byte : FormatReason → Byte
  | .erase => 1 | .program => 2 | .channel => 3

/-- R161, FORMAT steps. -/
def FormatStep.byte : FormatStep → Byte
  | .eraseB => 1 | .eraseA => 2 | .imageWrite => 3

/-- R161, slots: 0xFF for none. -/
def slotByte : Option Slot → Byte
  | some .a => 0 | some .b => 1 | none => 0xFF

/-- R161, device states. -/
def DeviceState.byte : DeviceState → Byte
  | .starting => 0 | .unformatted => 1 | .formatting => 2 | .ready => 3 | .service => 4 | .failed _ => 5

/-- R161, FAILED causes. -/
def FailCause.byte : FailCause → Byte
  | .noMedia => 1 | .geometry => 2 | .slot => 3

/-- R161: the FAILED cause, 0 in every other state. -/
def DeviceState.causeByte : DeviceState → Byte
  | .failed c => c.byte
  | .starting => 0 | .unformatted => 0 | .formatting => 0 | .ready => 0 | .service => 0

/-- R164, slot results of STARTED. -/
def SlotResult.code : SlotResult → BitVec 2
  | .unread => 0 | .notIntact => 1 | .intact => 2 | .valid => 3

/-- R164: the code byte of a notice kind, 1 to 7. -/
def NoticeKind.byte : NoticeKind → Byte
  | .started => 1 | .holdExpired => 2 | .unitRetired => 3 | .lowSpares => 4 | .channelFault => 5
  | .moveResult => 6 | .checkpointResult => 7

/-- The place of a notice kind in the pending set: its kind number less one (R166, byte 8). -/
def NoticeKind.idx : NoticeKind → Fin 7
  | .started => 0 | .holdExpired => 1 | .unitRetired => 2 | .lowSpares => 3 | .channelFault => 4
  | .moveResult => 5 | .checkpointResult => 6

/-- R161: 0xFFFF marks a unit or an owner that is absent. -/
def orAbsent : Option Nat → Word16
  | some g => BitVec.ofNat 16 g
  | none => 0xFFFF

/-- A signed count in a 16-bit field, two's complement (log 28). -/
def signed16 (i : Int) : Word16 := BitVec.ofInt 16 i

/-- The twelve bytes of a record, in the order the link shifts them out (R159, R160). -/
def Record.bytes (r : Record) : List Byte :=
  [r.tag, r.code, r.status, r.flags] ++ le16 r.w0 ++ le16 r.w1 ++ le16 r.w2 ++ le16 r.w3

/-- R158, R161: a completion record whose byte 3 and result bytes are all 0. -/
def plainRecord (tag code : Byte) (st : Status) : Record := ⟨tag, code, st.byte, 0, 0, 0, 0, 0⟩

/-- R161, byte 3 of a LOOKUP result: bit 0 BOUND, bit 1 MOVING, bit 2 RETIRE_PENDING, bit 3 CHANNEL_DOWN. -/
def lookupFlags (bound moving retirePending channelDown : Bool) : Byte :=
  0#4 ++ BitVec.ofBool channelDown ++ BitVec.ofBool retirePending ++ BitVec.ofBool moving ++ BitVec.ofBool bound

/-- R161, LOOKUP. -/
def lookupRecord (tag flags : Byte) (unit : Option Nat) (gen handle : Word16) : Record :=
  ⟨tag, encodeReqCode .lookup, 0, flags, orAbsent unit, gen, handle, 0⟩

/-- R161, BIND (R14). -/
def bindRecord (tag : Byte) (unit : Nat) (gen handle : Word16) : Record :=
  ⟨tag, encodeReqCode .bind, 0, 0, BitVec.ofNat 16 unit, gen, handle, 0⟩

/-- R161, UNBIND. -/
def unbindRecord (tag : Byte) (gen : Word16) : Record := ⟨tag, encodeReqCode .unbind, 0, 0, 0xFFFF, gen, 0, 0⟩

/-- R161, RELEASE. -/
def releaseRecord (tag : Byte) (e : HoldEntry) (state : Byte) (holds : Nat) : Record :=
  ⟨tag, encodeReqCode .release, 0, 0, BitVec.ofNat 16 e.unit, e.generation, BitVec.ofNat 16 e.logical,
    join16 state (BitVec.ofNat 8 holds)⟩

/-- R161, RENEW: the new start tick fills bytes 6 to 9. -/
def renewRecord (tag : Byte) (unit : Nat) (start : Word32) (lifetime : Word16) : Record :=
  ⟨tag, encodeReqCode .renew, 0, 0, BitVec.ofNat 16 unit, loWord start, hiWord start, lifetime⟩

/-- R161: byte 3 of RETIRE and QUERY_UNIT, bit 2 RETIRE_PENDING. -/
def pendingFlag (retirePending : Bool) : Byte := 0#5 ++ BitVec.ofBool retirePending ++ 0#2

/-- R161, RETIRE. -/
def retireRecord (tag : Byte) (unit : Nat) (u : UnitRec) : Record :=
  ⟨tag, encodeReqCode .retire, 0, pendingFlag u.retirePending, BitVec.ofNat 16 unit, 0, join16 u.state.byte 0, 0⟩

/-- R161, QUERY_UNIT. -/
def queryRecord (tag : Byte) (u : UnitRec) (channel : ChannelState) : Record :=
  ⟨tag, encodeReqCode .queryUnit, 0, pendingFlag u.retirePending, u.wear, orAbsent u.state.owner,
    join16 u.state.byte u.state.causeByte, join16 (BitVec.ofNat 8 u.holds) channel.byte⟩

/-- R161, CHECKPOINT, with status OK or CHECKPOINT_FAILED. -/
def checkpointRecord (tag : Byte) (st : Status) (gen : Word32) (slot : Slot) (reason : CkptReason) (released : Nat) :
    Record :=
  ⟨tag, encodeReqCode .checkpoint, st.byte, 0, loWord gen, hiWord gen, join16 (slotByte (some slot)) reason.byte,
    BitVec.ofNat 16 released⟩

/-- R161, RESTART_CHANNEL, with status OK or RESTART_FAILED. -/
def restartRecord (tag : Byte) (st : Status) (c : Fin 4) (cause : Option FaultCause) (reason : Option RestartReason)
    (count : Word16) : Record :=
  ⟨tag, encodeReqCode .restartChannel, st.byte, 0, join16 (BitVec.ofNat 8 c.val) (faultByte cause),
    join16 (restartReasonByte reason) 0, count, 0⟩

/-- R161, FORMAT with status OK: byte 3 is the durable generation 1. -/
def formatRecord (tag : Byte) (l sMin : Word16) (usable : Nat) (spare : Int) : Record :=
  ⟨tag, encodeReqCode .format, 0, 1, l, sMin, BitVec.ofNat 16 usable, signed16 spare⟩

/-- R161, FORMAT_FAILED: the reason in byte 4, the failed step in byte 5. -/
def formatFailedRecord (tag : Byte) (reason : FormatReason) (step : FormatStep) : Record :=
  ⟨tag, encodeReqCode .format, Status.formatFailed.byte, 0, join16 reason.byte step.byte, 0, 0, 0⟩

/-- R161, GET_PARAMETER. -/
def getParameterRecord (tag : Byte) (v : Word16) : Record := ⟨tag, encodeReqCode .getParameter, 0, 0, v, 0, 0, 0⟩

/-- R161, SET_PARAMETER: the new value and the previous one. -/
def setParameterRecord (tag : Byte) (new old : Word16) : Record :=
  ⟨tag, encodeReqCode .setParameter, 0, 0, new, old, 0, 0⟩

/-- R161, READ_COUNTER: the value fills bytes 4 to 7. -/
def readCounterRecord (tag : Byte) (v : Word32) : Record :=
  ⟨tag, encodeReqCode .readCounter, 0, 0, loWord v, hiWord v, 0, 0⟩

/-- R161, the 32-bit word of a MOVE completion: bits 0-11 the unit or 0, bits 12-21 the source's index, bits 22-31
the target's index. -/
def moveWord (unit : Option Nat) (sourceIndex targetIndex : Nat) : Word32 :=
  BitVec.ofNat 10 targetIndex ++ BitVec.ofNat 10 sourceIndex ++ BitVec.ofNat 12 (unit.getD 0)

/-- R161, byte 3 of a MOVE completion: bit 0 BOUND, bits 4-5 the channel, bits 6-7 the reason. -/
def moveFlags (bound : Bool) (c : Fin 4) (reason : MoveReason) : Byte :=
  reason.code ++ BitVec.ofNat 2 c.val ++ 0#3 ++ BitVec.ofBool bound

/-- R89: the ticks a move took, standing at 65535 for any longer time. -/
def ticksTaken (now start : Word32) : Word16 := BitVec.ofNat 16 (min (now - start).toNat 65535)

/-- R161 and R89: the completion of a host MOVE. `after` is the logical's binding after the move. -/
def moveRecord (tag : Byte) (st : Status) (c : Fin 4) (m : Move) (reason : MoveReason) (after : Option Nat × Word16)
    (now : Word32) : Record :=
  let w := moveWord after.1 (m.source % 1024) (m.target % 1024)
  ⟨tag, encodeReqCode .move, st.byte, moveFlags after.1.isSome c reason, after.2, ticksTaken now m.start, loWord w,
    hiWord w⟩

/-- A notice: tag 0, its kind, its status byte and its detail. Byte 3 is filled when it is placed (R162, R163). -/
def noticeRecord (k : NoticeKind) (status : Byte) (w0 w1 w2 w3 : Word16) : Record :=
  ⟨0, k.byte, status, 0, w0, w1, w2, w3⟩

/-- R164, STARTED (R144). -/
def startedNotice (d : DeviceState) (presentBits : BitVec 4) (resA resB : SlotResult) (loaded : Option Slot)
    (gen : Word32) : Record :=
  noticeRecord .started 0
    (join16 (d.causeByte.setWidth 4 ++ d.byte.setWidth 4) (resB.code ++ resA.code ++ presentBits))
    (join16 (slotByte loaded) 0) (loWord gen) (hiWord gen)

/-- R57: slot × 256 + sequence. -/
def handleOf (slot : Fin 64) (seq : Byte) : Word16 := BitVec.ofNat 8 slot.val ++ seq

/-- R164, HOLD_EXPIRED (R64). -/
def holdExpiredNotice (slot : Fin 64) (e : HoldEntry) : Record :=
  noticeRecord .holdExpired 0 (handleOf slot e.sequence) (BitVec.ofNat 16 e.unit) (BitVec.ofNat 16 e.logical)
    e.generation

/-- R164, UNIT_RETIRED (R44). -/
def unitRetiredNotice (unit : Nat) (cause : Cause) : Record :=
  noticeRecord .unitRetired 0 (BitVec.ofNat 16 unit) (join16 cause.byte 0) 0 0

/-- R164, LOW_SPARES (R52). -/
def lowSparesNotice (spare : Int) (sMin : Word16) : Record :=
  noticeRecord .lowSpares 0 (signed16 spare) sMin 0 0

/-- R164: the code of an operation lost in flight. IDENTIFY and RESET are never lost to a CHANNEL_FAULT (R128); the
codes 0 to 2 are reserved. -/
def OpKind.lostCode : OpKind → BitVec 4
  | .identify => 0 | .reset => 0 | .erase _ => 3 | .copy _ _ => 4 | .readImage _ => 5 | .writeImage _ _ => 6

/-- R128: the index the lost operation named; the source for COPY. -/
def OpKind.lostIndex : OpKind → Nat
  | .identify => 0 | .reset => 0 | .erase i => i | .copy s _ => s | .readImage i => i | .writeImage i _ => i

/-- R164, CHANNEL_FAULT (R128). -/
def channelFaultNotice (c : Fin 4) (cause : FaultCause) (k : OpKind) (now : Word32) : Record :=
  noticeRecord .channelFault 0
    (join16 (BitVec.ofNat 8 c.val) (k.lostCode ++ (faultByte (some cause)).setWidth 4))
    (BitVec.ofNat 16 k.lostIndex) (loWord now) (hiWord now)

/-- R164, MOVE_RESULT (R90); `origin` is 1 for LEVELING and 2 for EVACUATION. -/
def moveResultNotice (m : Move) (origin : Byte) (st : Status) (reason : MoveReason) : Record :=
  noticeRecord .moveResult st.byte (BitVec.ofNat 16 m.logical) (BitVec.ofNat 16 m.source) (BitVec.ofNat 16 m.target)
    (join16 origin (reason.code.setWidth 8))

/-- R164, CHECKPOINT_RESULT (R109). -/
def checkpointResultNotice (st : Status) (gen : Word32) (slot : Slot) (reason : CkptReason) (released : Nat) : Record :=
  noticeRecord .checkpointResult st.byte (loWord gen) (hiWord gen) (join16 (slotByte (some slot)) reason.byte)
    (BitVec.ofNat 16 released)

end Sys2Proof.Machine
end

