-- ==== Sys2Proof/Machine/Ops.lean ====
section
/-! DEFINITION. The named operations over the state that every command shares: field updates, views of the
collections (R26), the completion queue and notices (R156, R159, R162), counters (R177), unit records, retirement
(R44), unit release (R29), the free pool's selections (R34) and the hold table (R57 to R60). -/
namespace Sys2Proof.Machine

/-! ### Field updates -/

def State.setPending (s : State) (v : List Instr) : State := { s with pending := v }
def State.setResetLow (s : State) (v : Bool) : State := { s with resetLow := v }
def State.setMiso (s : State) (v : List Byte) : State := { s with miso := v }
def State.setTick (s : State) (v : Word32) : State := { s with tick := v }
def State.setDevice (s : State) (v : DeviceState) : State := { s with device := v }
def State.setStartup (s : State) (v : Startup) : State := { s with startup := v }
def State.setFormatRec (s : State) (v : Option FormatRec) : State := { s with formatRec := v }
def State.setParams (s : State) (v : Params) : State := { s with params := v }
def State.setCounters (s : State) (v : Vector Word32 19) : State := { s with counters := v }
def State.setMap (s : State) (v : List LogicalRec) : State := { s with map := v }
def State.setWaiters (s : State) (v : List Waiter) : State := { s with waiters := v }
def State.setUnits (s : State) (v : List (Nat × UnitRec)) : State := { s with units := v }
def State.setEraseQueues (s : State) (v : Vector (List Nat) 4) : State := { s with eraseQueues := v }
def State.setHolds (s : State) (v : Vector HoldSlot 64) : State := { s with holds := v }
def State.setMoves (s : State) (v : Vector (Option Move) 4) : State := { s with moves := v }
def State.setCkpt (s : State) (v : Ckpt) : State := { s with ckpt := v }
def State.setChannels (s : State) (v : Vector Channel 4) : State := { s with channels := v }
def State.setLink (s : State) (v : Link) : State := { s with link := v }

/-! ### Units, channels and slots: names and views -/

/-- The channel of a global unit number (00_scope.md, "Unit addresses"). -/
def chanOf (g : Nat) : Fin 4 := Fin.ofNat 4 (g / 1024)

/-- The index of a global unit number on its channel. -/
def indexOf (g : Nat) : Nat := g % 1024

/-- The global number of a unit: channel × 1024 + index. -/
def globalOf (c : Fin 4) (i : Nat) : Nat := c.val * 1024 + i

/-- A channel is present when its die answered the start-up probe (00_scope.md, Terms). -/
def Channel.present (ch : Channel) : Bool :=
  match ch.state with
  | .online => true | .faulted => true | .restarting => true
  | .undetermined => false | .absent => false

def State.present (s : State) (c : Fin 4) : Bool := s.channels[c].present

/-- R117: the arbiter issues work only on an ONLINE channel. -/
def State.online (s : State) (c : Fin 4) : Bool := decide (s.channels[c].state = .online)

def State.setChannel (s : State) (c : Fin 4) (ch : Channel) : State := s.setChannels (s.channels.set c ch)

/-- The unit count of a present channel, 0 for a channel that is not present (R114). -/
def Channel.unitCount (ch : Channel) : Nat := if ch.present then ch.count else 0

def State.counts (s : State) : Vector Nat 4 := s.channels.map Channel.unitCount

/-- The global numbers of the units that unit counts give, ascending. -/
def unitsOfCounts (counts : Vector Nat 4) : List Nat :=
  (List.finRange 4).flatMap fun c => (List.range counts[c]).map (globalOf c)

/-- P: the number of units on all present channels together. -/
def State.presentUnits (s : State) : Nat := s.counts.toList.sum

/-- The global number of slot A, 0.0000, and of slot B: 1.0000 when channel 1 has units and 0.0001 when not (R97). -/
def slotUnit (counts : Vector Nat 4) : Slot → Nat
  | .a => 0
  | .b => if counts[(1 : Fin 4)] = 0 then 1 else 1024

def State.slotUnit (s : State) (k : Slot) : Nat := Sys2Proof.Machine.slotUnit s.counts k

def isSlotUnit (counts : Vector Nat 4) (g : Nat) : Bool := g == slotUnit counts .a || g == slotUnit counts .b

/-- The usable units of a geometry: every present unit but the two slots, ascending (R25). -/
def usableUnits (counts : Vector Nat 4) : List Nat := (unitsOfCounts counts).filter fun g => !isSlotUnit counts g

/-- The record of a unit in a unit table. -/
def unitIn (us : List (Nat × UnitRec)) (g : Nat) : Option UnitRec := us.lookup g

def State.unit? (s : State) (g : Nat) : Option UnitRec := unitIn s.units g

/-- The unit table with one unit's record changed; which units it has stays as it is. -/
def modifyIn (us : List (Nat × UnitRec)) (g : Nat) (f : UnitRec → UnitRec) : List (Nat × UnitRec) :=
  us.map fun p => if p.1 = g then (p.1, f p.2) else p

def State.modifyUnit (s : State) (g : Nat) (f : UnitRec → UnitRec) : State := s.setUnits (modifyIn s.units g f)

def State.setUnitState (s : State) (g : Nat) (st : UnitState) : State :=
  s.modifyUnit g fun u => { u with state := st }

def UnitState.isFree (u : UnitState) : Bool := decide (u = .free)
def UnitState.isDirty (u : UnitState) : Bool := decide (u = .dirty)
def UnitState.isWaiting (u : UnitState) : Bool := decide (u = .waiting)
def UnitState.isDraining (u : UnitState) : Bool := decide (u = .draining)
def UnitState.isRetired : UnitState → Bool
  | .retired _ => true
  | .free => false | .dirty => false | .erasing => false | .bound _ => false | .target _ => false
  | .draining => false | .waiting => false

/-- The numbers of the units whose record satisfies `p`, ascending as the unit table is. -/
def State.unitsWhere (s : State) (p : UnitRec → Bool) : List Nat := (s.units.filter fun q => p q.2).map (·.1)

/-- The commit-wait set (R42): the WAITING units, ascending. -/
def State.commitWait (s : State) : List Nat := s.unitsWhere fun u => u.state.isWaiting

/-- The retired set (R43). -/
def State.retiredSet (s : State) : List Nat := s.unitsWhere fun u => u.state.isRetired

/-- R51: (P − 2) − retired − L, a signed number. -/
def State.spareCount (s : State) : Int :=
  (s.presentUnits : Int) - 2 - (s.retiredSet.length : Int) - (s.map.length : Int)

/-- R32: a unit stands before another in the free pool when it is less worn, ties to the lower global number. -/
def poolBefore (p q : Nat × UnitRec) : Bool :=
  decide (p.2.wear.toNat < q.2.wear.toNat ∨ (p.2.wear = q.2.wear ∧ p.1 < q.1))

/-- R32: each joining unit is placed at its place among the units already there. -/
def poolInsert (p : Nat × UnitRec) : List (Nat × UnitRec) → List (Nat × UnitRec)
  | [] => [p]
  | q :: rest => if poolBefore p q then p :: q :: rest else q :: poolInsert p rest

/-- The free pool (R32): the FREE units in ascending wear, ties in ascending global number. -/
def State.freePool (s : State) : List (Nat × UnitRec) :=
  (s.units.filter fun p => p.2.state.isFree).foldr poolInsert []

/-- R34: the first unit in pool order whose channel is ONLINE. -/
def State.firstOnlineFree (s : State) : Option Nat :=
  (s.freePool.find? fun p => s.online (chanOf p.1)).map (·.1)

/-- R34: the FREE units of one channel, in pool order. -/
def State.freeOn (s : State) (c : Fin 4) : List (Nat × UnitRec) := s.freePool.filter fun p => chanOf p.1 == c

/-- R34: the least-worn FREE unit of a channel. -/
def State.leastWornFree (s : State) (c : Fin 4) : Option Nat := (s.freeOn c).head?.map (·.1)

/-- The first of the most-worn entries of a list: a later entry is taken only when it is more worn. -/
def mostWorn : List (Nat × UnitRec) → Option (Nat × UnitRec)
  | [] => none
  | p :: rest =>
    match mostWorn rest with
    | none => some p
    | some q => if p.2.wear.toNat < q.2.wear.toNat then some q else some p

/-- The first of the least-worn entries of a list: a later entry is taken only when it is less worn. -/
def leastWorn : List (Nat × UnitRec) → Option (Nat × UnitRec)
  | [] => none
  | p :: rest =>
    match leastWorn rest with
    | none => some p
    | some q => if q.2.wear.toNat < p.2.wear.toNat then some q else some p

/-- R34: the most-worn FREE unit of a channel, ties to the lowest global number. -/
def State.mostWornFree (s : State) (c : Fin 4) : Option (Nat × UnitRec) :=
  mostWorn (s.units.filter fun p => p.2.state.isFree && (chanOf p.1 == c))

/-- A logical's record; none when the number is L or more (R1). -/
def State.logical? (s : State) (n : Nat) : Option LogicalRec := s.map[n]?

def State.setLogical (s : State) (n : Nat) (r : LogicalRec) : State := s.setMap (s.map.set n r)

def State.modifyLogical (s : State) (n : Nat) (f : LogicalRec → LogicalRec) : State := s.setMap (s.map.modify n f)

/-- A logical's unit and generation as they stand; unbound with generation 0 for a number that has no record. -/
def State.bindingOf (s : State) (n : Nat) : Option Nat × Word16 :=
  match s.logical? n with
  | some r => (r.unit, r.generation)
  | none => (none, 0)

/-- A map exists while there is a unit table (R27). -/
def State.tablesExist (s : State) : Bool := !s.units.isEmpty

/-- R165: ATTN_N is low exactly while the completion queue holds a record; this is the level of the pin. -/
def State.attnN (s : State) : Bool := s.link.queue.isEmpty

/-! ### Deadlines -/

/-- R54: the deadline of start tick `start` and length `d` has passed at `now`. -/
def deadlinePassed (now start : Word32) (d : Nat) : Bool := decide (d ≤ (now - start).toNat)

/-- R118: the deadline of an operation's kind. -/
def OpKind.deadline : OpKind → Nat
  | .identify => Config.deadlineIdentify
  | .reset => Config.deadlineReset
  | .erase _ => Config.deadlineErase
  | .copy _ _ => Config.deadlineCopy
  | .readImage _ => Config.deadlineReadImage
  | .writeImage _ _ => Config.deadlineWriteImage

/-! ### Counters -/

/-- The nineteen counters, in the order of their ids (R177). -/
inductive Counter where
  | binds | unbinds | lookups | holdsTaken | holdsExpired | resetReleased | erasesCompleted | eraseFailures
  | movesCommitted | movesAbandoned | movesFailed | checkpointsCompleted | checkpointsFailed | retirements
  | strayReplies | discarded | linkResets | noticesCoalesced | sourceReadFailures
deriving DecidableEq, Repr

/-- A counter's place: its id of R177 less one. -/
def Counter.idx : Counter → Fin 19
  | .binds => 0 | .unbinds => 1 | .lookups => 2 | .holdsTaken => 3 | .holdsExpired => 4 | .resetReleased => 5
  | .erasesCompleted => 6 | .eraseFailures => 7 | .movesCommitted => 8 | .movesAbandoned => 9 | .movesFailed => 10
  | .checkpointsCompleted => 11 | .checkpointsFailed => 12 | .retirements => 13 | .strayReplies => 14
  | .discarded => 15 | .linkResets => 16 | .noticesCoalesced => 17 | .sourceReadFailures => 18

def State.counter (s : State) (k : Counter) : Word32 := s.counters[k.idx]

/-- R177: a counter rises by `n`, modulo 2^32. -/
def State.countBy (s : State) (k : Counter) (n : Nat) : State :=
  s.setCounters (s.counters.set k.idx (s.counters[k.idx] + BitVec.ofNat 32 n))

/-- R177: a counter rises by one. -/
def State.count (s : State) (k : Counter) : State := s.countBy k 1

/-! ### The completion queue and notices -/

/-- R155, R156: open requests and queued records together. -/
def Link.used (l : Link) : Nat := l.openTags.length + l.queue.length

/-- R156: the reserved slot of an open request becomes its queued record, and its tag becomes free. -/
def Link.complete (l : Link) (tag : Byte) (r : Record) : Link :=
  { l with openTags := l.openTags.erase tag, queue := l.queue ++ [r] }

/-- Completes the open request of a tag with a record (R156). A record is placed for an open request only (log 18). -/
def State.complete (s : State) (tag : Byte) (r : Record) : State :=
  if tag ∈ s.link.openTags then s.setLink (s.link.complete tag r) else s

/-- The request `f` completes with a status and no result (R158, R161). Byte 1 is the frame's code byte, also where that
byte is the code of no request (0x00 among them): R159 says "the request code", and what stands there in the BAD_REQUEST
record of a frame without one is the model's choice (log 7, DESIGN CHOICE). -/
def State.completePlain (s : State) (f : Frame) (st : Status) : State := s.complete f.tag (plainRecord f.tag f.code st)

/-- One more occurrence, saturating at 255 (R162). -/
def countUp (n : Byte) : Byte := if n = 255 then 255 else n + 1

/-- R162: a notice is placed when a slot is left over and its kind is not pending; otherwise its kind is pending. -/
def Link.post (l : Link) (k : NoticeKind) (r : Record) : Link :=
  match l.notices[k.idx] with
  | some p => { l with notices := l.notices.set k.idx (some ⟨countUp p.count, r⟩) }
  | none =>
    if l.used < Config.maxRecords then { l with queue := l.queue ++ [{ r with flags := 1 }] }
    else { l with notices := l.notices.set k.idx (some ⟨1, r⟩) }

/-- R162: posts a notice; a notice merged into a kind already pending is counted. -/
def State.post (s : State) (k : NoticeKind) (r : Record) : State :=
  let s' := s.setLink (s.link.post k r)
  if (s.link.notices[k.idx]).isSome then s'.count .noticesCoalesced else s'

/-- The pending kinds, lowest kind first (R163). -/
def Link.lowestPending (l : Link) : Option (Fin 7) := (List.finRange 7).find? fun i => (l.notices[i]).isSome

/-- R163: the pending notice of lowest kind is placed at the tail with its count, and its kind is pending no more. -/
def Link.placeLowest (l : Link) : Link :=
  match l.lowestPending with
  | none => l
  | some i =>
    match l.notices[i] with
    | none => l
    | some p =>
      { l with queue := l.queue ++ [{ p.detail with flags := p.count }], notices := l.notices.set i none }

/-! ### Retirement and unit release -/

/-- R52: a retirement that leaves the spare count below S_min posts LOW_SPARES. -/
def State.postLowSpares (s : State) : State :=
  if s.spareCount < (s.params.sMin.toNat : Int) then s.post .lowSpares (lowSparesNotice s.spareCount s.params.sMin) else s

/-- R44: a unit becomes RETIRED with a cause, loses retire_pending and owner, is counted and reported. -/
def State.retireUnit (s : State) (g : Nat) (cause : Cause) : State :=
  let s1 := s.modifyUnit g fun u => { u with state := .retired cause, retirePending := false }
  let s2 := s1.count .retirements
  let s3 := s2.post .unitRetired (unitRetiredNotice g cause)
  s3.postLowSpares

/-- A unit joins the tail of its channel's erase queue (R36). -/
def State.joinTail (s : State) (g : Nat) : State :=
  s.setEraseQueues (s.eraseQueues.set (chanOf g) (s.eraseQueues[chanOf g] ++ [g]))

/-- A unit joins the head of its channel's erase queue (R36). -/
def State.joinHead (s : State) (g : Nat) : State :=
  s.setEraseQueues (s.eraseQueues.set (chanOf g) (g :: s.eraseQueues[chanOf g]))

/-- A unit leaves its channel's erase queue from wherever it stands (R37). -/
def State.leaveQueue (s : State) (g : Nat) : State :=
  s.setEraseQueues (s.eraseQueues.set (chanOf g) ((s.eraseQueues[chanOf g]).erase g))

def State.dirtyTail (s : State) (g : Nat) : State := (s.setUnitState g .dirty).joinTail g
def State.dirtyHead (s : State) (g : Nat) : State := (s.setUnitState g .dirty).joinHead g

/-- The units a snapshot records BOUND (R98). -/
def Snapshot.bound (k : Snapshot) : List Nat :=
  k.units.filterMap fun p => match p.2.state with | .bound _ => some p.1 | .free => none | .retired _ => none

/-- R29, outcome 3: the durable image, the unconfirmed BOUND set or the snapshot of a checkpoint in flight holds it. -/
def Ckpt.recordsBound (k : Ckpt) (g : Nat) : Bool :=
  k.durableBound.contains g || k.unconfirmed.contains g ||
    match k.flight with
    | some f => f.snapshot.bound.contains g
    | none => false

/-- R29: unit release, the first outcome whose condition holds. -/
def State.releaseUnit (s : State) (g : Nat) : State :=
  match s.unit? g with
  | none => s
  | some u =>
    if u.retirePending then s.retireUnit g .host
    else if 0 < u.holds then s.setUnitState g .draining
    else if s.ckpt.recordsBound g then s.setUnitState g .waiting
    else s.dirtyTail g

/-- A unit that a lost or failed operation may have written: RETIRED(HOST) when retire_pending is set (R45), else DIRTY
at the tail (R82, R84) or at the head (R40, R87) of its channel's erase queue. -/
def State.discardToTail (s : State) (g : Nat) : State :=
  match s.unit? g with
  | none => s
  | some u => if u.retirePending then s.retireUnit g .host else s.dirtyTail g

def State.discardToHead (s : State) (g : Nat) : State :=
  match s.unit? g with
  | none => s
  | some u => if u.retirePending then s.retireUnit g .host else s.dirtyHead g

/-! ### The hold table -/

/-- R58: the lowest-numbered free slot. -/
def State.freeHoldSlot (s : State) : Option (Fin 64) := (List.finRange 64).find? fun i => (s.holds[i]).entry.isNone

/-- The hold table has no free entry (R10, R11, R18). -/
def State.holdTableFull (s : State) : Bool := s.freeHoldSlot.isNone

/-- R58: the sequence counter advances by one, with 255 followed by 1. -/
def nextSequence (b : Byte) : Byte := if b = 255 then 1 else b + 1

/-- R58: takes a hold on a unit for a logical with a generation; answers the state and the handle. -/
def State.takeHold (s : State) (g n : Nat) (gen : Word16) : State × Word16 :=
  match s.freeHoldSlot with
  | none => (s, 0)
  | some i =>
    let q := nextSequence (s.holds[i]).seq
    let e : HoldEntry := ⟨q, g, n, gen, s.tick, s.params.tHold⟩
    let s1 := s.setHolds (s.holds.set i ⟨q, some e⟩)
    let s2 := s1.modifyUnit g fun u => { u with holds := u.holds + 1 }
    (s2.count .holdsTaken, handleOf i q)

/-- R57: the slot a current handle names. -/
def State.currentHandle (s : State) (h : Word16) : Option (Fin 64 × HoldEntry) :=
  if hlt : (hi8 h).toNat < 64 then
    match (s.holds[(⟨(hi8 h).toNat, hlt⟩ : Fin 64)]).entry with
    | some e => if e.sequence = lo8 h then some (⟨(hi8 h).toNat, hlt⟩, e) else none
    | none => none
  else none

/-- R60: an entry leaves its slot and its unit's count falls by one; a DRAINING unit whose count reaches 0 goes through
unit release in the same claim. -/
def State.removeHold (s : State) (i : Fin 64) (e : HoldEntry) : State :=
  let s1 := s.setHolds (s.holds.set i ⟨(s.holds[i]).seq, none⟩)
  let s2 := s1.modifyUnit e.unit fun u => { u with holds := u.holds - 1 }
  match s2.unit? e.unit with
  | some u => if u.state.isDraining && u.holds == 0 then s2.releaseUnit e.unit else s2
  | none => s2

/-- The occupied slots of the hold table (R55, "holds in use"). -/
def State.holdsInUse (s : State) : Nat := ((List.finRange 64).filter fun i => (s.holds[i]).entry.isSome).length

end Sys2Proof.Machine
end

