-- ==== Sys2Proof/Machine/Image.lean ====
section
/-! DEFINITION. Snapshots (R98), the checkpoint image they are written as (R114, R115), the tests start-up applies to
an image read from a slot (R140, R141), and the tables a chosen image is loaded into (R143, R27, R2). -/
namespace Sys2Proof.Machine

/-! ### The snapshot -/

/-- R98: what a snapshot records of a unit. -/
def recordUnit (u : UnitRec) : RecUnit :=
  match u.state with
  | .bound n => ⟨.bound n, u.wear, u.retirePending⟩
  | .retired c => ⟨.retired c, u.wear, false⟩
  | .erasing => ⟨.free, u.wear, u.retirePending⟩
  | .target _ => ⟨.free, u.wear, u.retirePending⟩
  | .free => ⟨.free, u.wear, false⟩
  | .dirty => ⟨.free, u.wear, false⟩
  | .draining => ⟨.free, u.wear, false⟩
  | .waiting => ⟨.free, u.wear, false⟩

/-- R98: the snapshot of the tables as they stand, for a target slot. -/
def State.takeSnapshot (s : State) (target : Slot) : Snapshot where
  generation := s.ckpt.durableGen + 1
  target := target
  counts := s.counts
  generations := s.map.map (·.generation)
  params := s.params
  units := s.units.map fun p => (p.1, recordUnit p.2)

/-! ### CRC-32 -/

/-- 0x04C11DB7 with its bits in reverse order: the polynomial of the reflected CRC of R114 (log 26). -/
def crcPolynomial : Word32 := 0xEDB88320

/-- One bit of the reflected CRC. -/
def crcBit (c : Word32) : Word32 := if c.getLsbD 0 then (c >>> 1) ^^^ crcPolynomial else c >>> 1

/-- One byte of the reflected CRC, least significant bit first. -/
def crcByte (c : Word32) (b : Byte) : Word32 :=
  crcBit (crcBit (crcBit (crcBit (crcBit (crcBit (crcBit (crcBit (c ^^^ b.setWidth 32))))))))

/-- R114: the CRC-32 of a list of bytes: initial value 0xFFFFFFFF, final value inverted. -/
def crc32 (bs : List Byte) : Word32 := ~~~ (bs.foldl crcByte 0xFFFFFFFF)

/-! ### Writing an image -/

/-- R114: cause codes of a unit record, in bits 0 to 2. -/
def RecState.causeCode : RecState → BitVec 3
  | .retired .host => 1 | .retired .eraseFail => 2 | .retired .programFail => 3 | .retired .worn => 4
  | .free => 0 | .bound _ => 0

/-- R114: state codes of a unit record. -/
def RecState.code : RecState → Byte
  | .free => 0 | .bound _ => 1 | .retired _ => 2

/-- R114: the owner of a unit record; 0xFFFF when there is none. -/
def RecState.ownerWord : RecState → Word16
  | .bound n => BitVec.ofNat 16 n
  | .free => 0xFFFF | .retired _ => 0xFFFF

/-- R114: the six bytes of a usable unit's record. -/
def RecUnit.bytes (u : RecUnit) : List Byte :=
  [u.state.code, BitVec.ofBool u.retirePending ++ 0#4 ++ u.state.causeCode] ++ le16 u.wear ++ le16 u.state.ownerWord

/-- R115: the record of a slot unit: state 3, byte 1 zero, wear 0, owner 0xFFFF. -/
def slotRecordBytes : List Byte := [3, 0] ++ le16 0 ++ le16 0xFFFF

/-- R114, byte 5: bit c set when channel c is present. -/
def presentByte (counts : Vector Nat 4) : Byte :=
  0#4 ++ BitVec.ofBool (counts[(3 : Fin 4)] != 0) ++ BitVec.ofBool (counts[(2 : Fin 4)] != 0) ++
    BitVec.ofBool (counts[(1 : Fin 4)] != 0) ++ BitVec.ofBool (counts[(0 : Fin 4)] != 0)

/-- R115: the slot identity. -/
def Slot.identity : Slot → Byte
  | .a => 0 | .b => 1

/-- R114: the marker U, G, M, P. -/
def imageMarker : List Byte := [0x55, 0x47, 0x4D, 0x50]

/-- R114: the 32 header bytes. -/
def Snapshot.header (k : Snapshot) : List Byte :=
  imageMarker ++ [1, presentByte k.counts] ++
    (k.counts.toList.flatMap fun n => le16 (BitVec.ofNat 16 n)) ++
    le16 (BitVec.ofNat 16 k.generations.length) ++ le16 k.params.sMin ++ le16 k.params.tHold ++ le16 k.params.eMax ++
    le16 k.params.wSpread ++ le16 k.params.cAuto ++ le32 k.generation ++ [k.target.identity, 1]

/-- R115: the record of the present unit `g`. -/
def Snapshot.unitBytes (k : Snapshot) (g : Nat) : List Byte :=
  if isSlotUnit k.counts g then slotRecordBytes
  else
    match k.units.lookup g with
    | some u => u.bytes
    | none => RecUnit.bytes ⟨.free, 0, false⟩

/-- R114, R115: the image without its CRC. -/
def Snapshot.body (k : Snapshot) : List Byte :=
  k.header ++ (unitsOfCounts k.counts).flatMap k.unitBytes ++ k.generations.flatMap le16

/-- R114, R115: the image written from a snapshot. -/
def Snapshot.image (k : Snapshot) : List Byte := k.body ++ le32 (crc32 k.body)

/-! ### Reading an image -/

def byteAt (bs : List Byte) (i : Nat) : Byte := bs.getD i 0
def word16At (bs : List Byte) (i : Nat) : Word16 := join16 (byteAt bs i) (byteAt bs (i + 1))
def word32At (bs : List Byte) (i : Nat) : Word32 := join32 (word16At bs i) (word16At bs (i + 2))

/-- R114: the unit count of a channel in a header. -/
def headerCount (bs : List Byte) (c : Fin 4) : Word16 := word16At bs (6 + 2 * c.val)

/-- R114: L in a header. -/
def headerL (bs : List Byte) : Nat := (word16At bs 14).toNat

/-- R114: the five parameters in a header. -/
def headerParams (bs : List Byte) : Params :=
  ⟨word16At bs 18, word16At bs 20, word16At bs 22, word16At bs 24, word16At bs 16⟩

/-- R114: the generation in a header. -/
def headerGeneration (bs : List Byte) : Word32 := word32At bs 26

/-- R140, Q: the sum of the four unit counts of the header. -/
def headerUnits (bs : List Byte) : Nat := ((List.finRange 4).map fun c => (headerCount bs c).toNat).sum

/-- R140: the slot whose read returned `bs` is intact. -/
def intactImage (bs : List Byte) : Bool :=
  decide (32 ≤ bs.length) && (bs.take 4 == imageMarker) &&
  (byteAt bs 4 == 1) && (byteAt bs 31 == byteAt bs 4) &&
  decide (bs.length = 32 + 6 * headerUnits bs + 2 * headerL bs + 4) &&
  (crc32 (bs.take (bs.length - 4)) == word32At bs (bs.length - 4))

/-- A unit record as its six bytes give it (R114). -/
structure RawUnit where
  state : Byte
  info : Byte
  wear : Word16
  owner : Word16
deriving DecidableEq, Repr

/-- The unit records that follow the header, for the present units in ascending global number (R114). -/
def rawUnits : List Nat → List Byte → List (Nat × RawUnit)
  | g :: gs, a :: b :: c :: d :: e :: f :: rest => (g, ⟨a, b, join16 c d, join16 e f⟩) :: rawUnits gs rest
  | [], _ => []
  | _ :: _, _ => []

/-- The first `n` 16-bit fields of a byte list. -/
def rawWords : Nat → List Byte → List Word16
  | n + 1, a :: b :: rest => join16 a b :: rawWords n rest
  | 0, _ => []
  | _ + 1, _ => []

/-- R141, test 6: a slot's record. -/
def RawUnit.isSlotRecord (r : RawUnit) : Bool := r.state == 3 && r.info == 0 && r.wear == 0 && r.owner == 0xFFFF

def RawUnit.cause (r : RawUnit) : Nat := (r.info &&& 7).toNat
def RawUnit.retirePending (r : RawUnit) : Bool := r.info.getLsbD 7

/-- R141, test 6: a usable unit's record. -/
def RawUnit.isUnitRecord (r : RawUnit) (l : Nat) : Bool :=
  (r.info &&& 0x78 == 0) &&
  ((r.state == 0 && r.owner == 0xFFFF && r.cause == 0) ||
   (r.state == 1 && decide (r.owner.toNat < l) && r.cause == 0) ||
   (r.state == 2 && r.owner == 0xFFFF && decide (1 ≤ r.cause ∧ r.cause ≤ 4) && !r.retirePending))

/-- R141, test 6: the unit records agree with the geometry and with each other. -/
def recordsAgree (counts : Vector Nat 4) (l : Nat) (raws : List (Nat × RawUnit)) : Bool :=
  (raws.all fun p => if isSlotUnit counts p.1 then p.2.isSlotRecord else p.2.isUnitRecord l) &&
  decide ((raws.filterMap fun p => if p.2.state = 1 then some p.2.owner else none).Nodup)

/-- R171: every value lies within its range. -/
def Params.inRange (p : Params) : Bool :=
  decide (1 ≤ p.tHold.toNat ∧ 100 ≤ p.eMax.toNat ∧ p.eMax.toNat ≤ 65000 ∧ p.wSpread.toNat ≤ 4096 ∧
    p.cAuto.toNat ≤ 1024 ∧ 8 ≤ p.sMin.toNat ∧ p.sMin.toNat ≤ 512)

/-- R141: an intact image read from a slot is valid for the geometry `counts`. -/
def validImage (counts : Vector Nat 4) (slot : Slot) (bs : List Byte) : Bool :=
  intactImage bs &&
  (byteAt bs 30 == slot.identity) &&
  (byteAt bs 5 == presentByte counts) && ((List.finRange 4).all fun c => (headerCount bs c).toNat == counts[c]) &&
  decide (1 ≤ (headerGeneration bs).toNat) &&
  decide (1 ≤ headerL bs ∧ headerL bs + 2 ≤ counts.toList.sum) &&
  (headerParams bs).inRange &&
  recordsAgree counts (headerL bs) (rawUnits (unitsOfCounts counts) (bs.drop 32))

/-- R139 to R141: the result of a slot. -/
def judgeSlot (counts : Vector Nat 4) (slot : Slot) : SlotRead → SlotResult
  | .unread => .unread
  | .bytes bs => if validImage counts slot bs then .valid else if intactImage bs then .intact else .notIntact

/-! ### Loading an image -/

/-- R114: the cause code of a RETIRED record. -/
def decodeCause (n : Nat) : Cause :=
  match n with
  | 2 => .eraseFail
  | 3 => .programFail
  | 4 => .worn
  | _ => .host

/-- R114: what a unit record records. -/
def RawUnit.decode (r : RawUnit) : RecUnit :=
  if r.state = 1 then ⟨.bound r.owner.toNat, r.wear, r.retirePending⟩
  else if r.state = 2 then ⟨.retired (decodeCause r.cause), r.wear, r.retirePending⟩
  else ⟨.free, r.wear, r.retirePending⟩

/-- R27: the unit record a loaded image gives. -/
def RecUnit.load (u : RecUnit) : UnitRec :=
  match u.state with
  | .bound n => ⟨.bound n, u.wear, 0, u.retirePending⟩
  | .retired c => ⟨.retired c, u.wear, 0, false⟩
  | .free => if u.retirePending then ⟨.retired .host, u.wear, 0, false⟩ else ⟨.dirty, u.wear, 0, false⟩

/-- The usable units an image records, ascending (R114). -/
def imageUnits (counts : Vector Nat 4) (bs : List Byte) : List (Nat × RecUnit) :=
  ((rawUnits (unitsOfCounts counts) (bs.drop 32)).filter fun p => !isSlotUnit counts p.1).map fun p => (p.1, p.2.decode)

/-- The logical generations an image records (R114). -/
def imageGenerations (bs : List Byte) : List Word16 := rawWords (headerL bs) (bs.drop (32 + 6 * headerUnits bs))

/-- R2: the unit of a logical is the one that records it as owner. -/
def ownerUnit (us : List (Nat × RecUnit)) (n : Nat) : Option Nat :=
  (us.find? fun p => decide (p.2.state = .bound n)).map (·.1)

/-- R2: the map table of a loaded image. -/
def loadedMap (us : List (Nat × RecUnit)) (gens : List Word16) : List LogicalRec :=
  gens.zipIdx.map fun p => ⟨ownerUnit us p.2, p.1, none⟩

/-- R27: each channel's DIRTY units in ascending index. -/
def dirtyQueues (us : List (Nat × UnitRec)) : Vector (List Nat) 4 :=
  Vector.ofFn fun c => (us.filter fun p => p.2.state.isDirty && (chanOf p.1 == c)).map (·.1)

/-- R143: loading the chosen image builds the tables, the durable state and the live parameters; the device is READY. -/
def State.loadImage (s : State) (slot : Slot) (bs : List Byte) : State :=
  let recs := imageUnits s.counts bs
  let us := recs.map fun p => (p.1, p.2.load)
  let bound := recs.filterMap fun p => match p.2.state with | .bound _ => some p.1 | .free => none | .retired _ => none
  let s1 := s.setUnits us
  let s2 := s1.setEraseQueues (dirtyQueues us)
  let s3 := s2.setMap (loadedMap recs (imageGenerations bs))
  let s4 := s3.setCkpt ⟨headerGeneration bs, some slot, bound, [], none⟩
  let s5 := s4.setParams (headerParams bs)
  s5.setDevice .ready

end Sys2Proof.Machine
end

