-- ==== Sys2Proof/Machine/Checkpoint.lean ====
section
/-! DEFINITION. The checkpoint unit: starting a checkpoint (R96 to R100), the automatic trigger (R111), success
(R104), failure (R106), the sorting of the commit-wait set (R105), the report (R108, R109), and the ends of a FORMAT
that its checkpoint or its slot erases bring (R149, R150). -/
namespace Sys2Proof.Machine

/-! ### The ends of a FORMAT -/

/-- R149: the device becomes READY and the FORMAT completes OK to its tag. -/
def State.formatSucceeds (s : State) : State :=
  match s.formatRec with
  | none => s
  | some f =>
    let s1 := (s.setDevice .ready).setFormatRec none
    match f.origin with
    | .host t => s1.complete t (formatRecord t f.l f.sMin (usableUnits s.counts).length s.spareCount)
    | .orphaned => s1

/-- R150: the device becomes FAILED(SLOT) and the FORMAT completes FORMAT_FAILED to its tag. -/
def State.formatFails (s : State) (reason : FormatReason) : State :=
  match s.formatRec with
  | none => s
  | some f =>
    let s1 := (s.setDevice (.failed .slot)).setFormatRec none
    match f.origin with
    | .host t => s1.complete t (formatFailedRecord t reason f.step)
    | .orphaned => s1

/-- R149: the reason a FORMAT takes from its checkpoint's failure. -/
def CkptReason.toFormat : CkptReason → FormatReason
  | .program => .program
  | .erase => .erase
  | .channel => .channel
  | .none => .channel
  | .generation => .channel

/-! ### Image operations -/

/-- The channel that carries a slot (R97). -/
def State.slotChannel (s : State) (k : Slot) : Fin 4 := chanOf (s.slotUnit k)

/-- The index of a slot's unit on its channel (R118). -/
def State.slotIndex (s : State) (k : Slot) : Nat := indexOf (s.slotUnit k)

/-- R122: an image operation placed for an ONLINE channel becomes its pending image operation. -/
def State.setPendingImage (s : State) (c : Fin 4) (w : Option ImageWork) : State :=
  s.setChannel c { s.channels[c] with pendingImage := w }

/-! ### The end of a checkpoint -/

/-- R105: the WAITING units that neither BOUND set of the checkpoint unit holds. -/
def State.leavingUnits (s : State) : List Nat :=
  s.commitWait.filter fun g => !s.ckpt.durableBound.contains g && !s.ckpt.unconfirmed.contains g

/-- R105: the leaving units become DIRTY at the tails of their erase queues, in ascending global number. -/
def State.sortCommitWait (s : State) : State := s.leavingUnits.foldl State.dirtyTail s

/-- R108, R109: a checkpoint's outcome goes to the party its origin names. -/
def State.reportCheckpoint (s : State) (f : Flight) (st : Status) (reason : CkptReason) (released : Nat) : State :=
  match f.origin with
  | .host t => s.complete t (checkpointRecord t st f.snapshot.generation f.target reason released)
  | .auto => s.post .checkpointResult (checkpointResultNotice st f.snapshot.generation f.target reason released)
  | .format => if st = .ok then s.formatSucceeds else s.formatFails reason.toFormat
  | .orphaned => s

/-- R104: a checkpoint succeeds. -/
def State.checkpointSucceeds (s : State) : State :=
  match s.ckpt.flight with
  | none => s
  | some f =>
    let s1 := s.setCkpt ⟨f.snapshot.generation, some f.target, f.snapshot.bound, s.ckpt.unconfirmed, none⟩
    let n := s1.leavingUnits.length
    let s2 := s1.sortCommitWait
    (s2.count .checkpointsCompleted).reportCheckpoint f .ok .none n

/-- R106: a checkpoint fails. `writeLost` says that its WRITE IMAGE had been issued and is lost at a fault. -/
def State.checkpointFails (s : State) (reason : CkptReason) (writeLost : Bool) : State :=
  match s.ckpt.flight with
  | none => s
  | some f =>
    let u := if writeLost then f.snapshot.bound else s.ckpt.unconfirmed
    let s1 := s.setCkpt { s.ckpt with unconfirmed := u, flight := none }
    let n := s1.leavingUnits.length
    let s2 := s1.sortCommitWait
    (s2.count .checkpointsFailed).reportCheckpoint f .checkpointFailed reason n

/-! ### The start of a checkpoint -/

/-- R97: the slot that does not hold the durable image; slot A when there is none. -/
def State.targetSlot (s : State) : Slot :=
  match s.ckpt.durableSlot with
  | some .a => .b
  | some .b => .a
  | none => .a

/-- R100, R101: the checkpoint unit places an operation on its target slot's channel; on a channel that is not ONLINE
the operation is handed back as lost and the checkpoint fails (R122, R103). -/
def State.placeCheckpointOp (s : State) (k : Slot) (kind : OpKind) : State :=
  if s.online (s.slotChannel k) then s.setPendingImage (s.slotChannel k) (some ⟨kind, .checkpoint⟩)
  else s.checkpointFails .channel false

/-- R96, R98, R100: an accepted checkpoint takes its snapshot and enters ERASING_SLOT. -/
def State.startCheckpoint (s : State) (origin : CkptOrigin) : State :=
  let k := s.targetSlot
  let s1 := s.setCkpt { s.ckpt with flight := some ⟨.erasingSlot, origin, k, s.takeSnapshot k⟩ }
  s1.placeCheckpointOp k (.erase (s.slotIndex k))

/-- R113: the FORMAT's checkpoint starts in phase WRITING, with its WRITE IMAGE as its image operation. -/
def State.startFormatCheckpoint (s : State) : State :=
  let k := s.targetSlot
  let snap := s.takeSnapshot k
  let s1 := s.setCkpt { s.ckpt with flight := some ⟨.writing, .format, k, snap⟩ }
  s1.placeCheckpointOp k (.writeImage (s.slotIndex k) snap.image)

/-- R111: the six conditions of an automatic checkpoint. -/
def State.autoTriggers (s : State) : Bool :=
  decide (s.device = .ready) && decide (0 < s.params.cAuto.toNat) &&
  decide (s.params.cAuto.toNat ≤ s.commitWait.length) && s.ckpt.flight.isNone &&
  s.online (s.slotChannel s.targetSlot) && decide (s.ckpt.durableGen ≠ 0xFFFFFFFF)

/-- R42, R111: the test made when the unit `g` has gone through unit release: if it has joined the commit-wait set and
the six conditions hold, an automatic checkpoint starts. -/
def State.testTrigger (s : State) (g : Nat) : State :=
  match s.unit? g with
  | some u => if u.state.isWaiting && s.autoTriggers then s.startCheckpoint .auto else s
  | none => s

end Sys2Proof.Machine
end

