-- ==== Sys2Proof/Machine/Relocation.lean ====
section
/-! DEFINITION. The relocation engine and the leveling monitor: starting a move (R74), abandoning one (R85, R86),
its ends (R81 to R84, R87), the report of its outcome (R89, R90), and the evaluation of the monitor (R76 to R78). -/
namespace Sys2Proof.Machine

def State.setMove (s : State) (c : Fin 4) (m : Option Move) : State := s.setMoves (s.moves.set c m)

/-- R5: a logical's move reference is cleared. -/
def State.clearMoveRef (s : State) (n : Nat) : State := s.modifyLogical n fun r => { r with move := none }

/-- R74: a move starts; its target leaves the free pool and its logical gains the move reference. -/
def State.startMove (s : State) (n source target : Nat) (origin : MoveOrigin) : State :=
  let s1 := s.modifyUnit target fun u => { u with state := .target n, holds := 0, retirePending := false }
  let s2 := s1.setMove (chanOf source) (some ⟨n, source, target, origin, .assigned, s.tick⟩)
  s2.modifyLogical n fun r => { r with move := some (chanOf source) }

/-- R89, R90: a move's outcome goes to the party its origin names. `after` is the logical's binding after the move. -/
def State.reportMove (s : State) (c : Fin 4) (m : Move) (st : Status) (reason : MoveReason)
    (after : Option Nat × Word16) : State :=
  match m.origin with
  | .host t => s.complete t (moveRecord t st c m reason after s.tick)
  | .orphaned => s
  | .leveling => if st = .ok then s else s.post .moveResult (moveResultNotice m 1 st reason)
  | .evacuation => if st = .ok then s else s.post .moveResult (moveResultNotice m 2 st reason)

/-- The counter an outcome rises (R177, ids 9 to 11). -/
def outcomeCounter : Status → Counter
  | .moveAbandoned => .movesAbandoned
  | .moveFailed => .movesFailed
  | .ok => .movesCommitted
  | .badRequest => .movesFailed | .outOfRange => .movesFailed | .wrongState => .movesFailed | .notBound => .movesFailed
  | .noFreeUnit => .movesFailed | .holdTableFull => .movesFailed | .staleHold => .movesFailed
  | .unitHeld => .movesFailed | .busy => .movesFailed | .channelDown => .movesFailed
  | .alreadyRetired => .movesFailed | .checkpointFailed => .movesFailed | .restartFailed => .movesFailed
  | .formatFailed => .movesFailed

/-- A move leaves the relocation list with an outcome: it is counted and reported (R89). -/
def State.endMove (s : State) (c : Fin 4) (m : Move) (st : Status) (reason : MoveReason)
    (after : Option Nat × Word16) : State :=
  ((s.setMove c none).count (outcomeCounter st)).reportMove c m st reason after

/-- R85, R86: the move of logical `n`, if its record has one, is abandoned by a BIND, an UNBIND or a hold. `after` is
the binding the abandoning request makes (R89). Answers the state and the channels whose move left the list. -/
def State.abandonMove (s : State) (n : Nat) (after : Option Nat × Word16) : State × List (Fin 4) :=
  match s.logical? n with
  | none => (s, [])
  | some r =>
    match r.move with
    | none => (s, [])
    | some c =>
      match s.moves[c] with
      | none => (s.clearMoveRef n, [])
      | some m =>
        match m.phase with
        | .assigned =>
          (((s.clearMoveRef n).setUnitState m.target .free).endMove c m .moveAbandoned .none after, [c])
        | .copying => ((s.clearMoveRef n).setMove c (some { m with phase := .abandoning }), [])
        | .abandoning => (s.clearMoveRef n, [])

/-- R81: the DONE reply to the COPY of a COPYING move commits it. -/
def State.commitMove (s : State) (c : Fin 4) (m : Move) : State :=
  let gen := (s.bindingOf m.logical).2 + 1
  let s1 := s.modifyUnit m.target fun u => { u with state := .bound m.logical, retirePending := false }
  let s2 := s1.setLogical m.logical ⟨some m.target, gen, none⟩
  let s3 := s2.releaseUnit m.source
  let s4 := s3.endMove c m .ok .none (some m.target, gen)
  s4.testTrigger m.source

/-- A move whose COPY ended without a commit leaves the list. A COPYING move fails and its logical loses the move
reference; an ABANDONING move ends abandoned (R82, R83, R84, R87). -/
def State.endCopy (s : State) (c : Fin 4) (m : Move) (reason : MoveReason) : State :=
  if m.phase = .abandoning then s.endMove c m .moveAbandoned reason (s.bindingOf m.logical)
  else (s.clearMoveRef m.logical).endMove c m .moveFailed reason (s.bindingOf m.logical)

/-- R87: the move of a faulted channel whose COPY was in flight is lost. -/
def State.loseCopy (s : State) (c : Fin 4) : State :=
  match s.moves[c] with
  | none => s
  | some m => (s.discardToHead m.target).endCopy c m .channel

/-- R87: the ASSIGNED move of a faulted channel is lost; its target returns to the free pool untouched. -/
def State.loseAssigned (s : State) (c : Fin 4) : State :=
  match s.moves[c] with
  | none => s
  | some m => if m.phase = .assigned then (s.setUnitState m.target .free).endCopy c m .channel else s

/-! ### The leveling monitor -/

/-- The owner of a BOUND unit that carries no hold and whose logical has no move (R77, R78). -/
def State.movableOwner (s : State) (u : UnitRec) : Option Nat :=
  match u.state with
  | .bound n =>
    if u.holds = 0 then
      match s.logical? n with
      | some r => if r.move.isNone then some n else none
      | none => none
    else none
  | .free => none | .dirty => none | .erasing => none | .target _ => none | .draining => none | .waiting => none
  | .retired _ => none

/-- The BOUND units of a channel that may be the source of a device move, ascending. -/
def State.movableUnits (s : State) (c : Fin 4) : List (Nat × UnitRec) :=
  s.units.filter fun p => (chanOf p.1 == c) && (s.movableOwner p.2).isSome

/-- R77: the unit evacuation would empty: the lowest-numbered movable unit with retire_pending set. -/
def State.evacuationSource (s : State) (c : Fin 4) : Option (Nat × UnitRec) :=
  (s.movableUnits c).find? fun p => p.2.retirePending

/-- R78: the pair leveling would move: the least-worn movable unit and the most-worn FREE unit. -/
def State.levelingPair (s : State) (c : Fin 4) : Option (Nat × UnitRec × Nat) :=
  if 0 < s.params.wSpread.toNat ∧ (s.params.sMin.toNat : Int) ≤ s.spareCount ∧ 2 ≤ (s.freeOn c).length then
    match s.mostWornFree c, leastWorn (s.movableUnits c) with
    | some f, some b =>
      if b.2.wear.toNat + s.params.wSpread.toNat ≤ f.2.wear.toNat then some (b.1, b.2, f.1) else none
    | some _, none => none
    | none, _ => none
  else none

/-- R78: leveling starts a move when its conditions hold. -/
def State.level (s : State) (c : Fin 4) : State :=
  match s.levelingPair c with
  | none => s
  | some (source, u, target) =>
    match s.movableOwner u with
    | some n => s.startMove n source target .leveling
    | none => s

/-- R76: an evaluation does something only in READY, on an ONLINE channel whose place in the list is free. -/
def State.mayEvaluate (s : State) (c : Fin 4) : Bool :=
  decide (s.device = .ready) && s.online c && (s.moves[c]).isNone

/-- R76: the leveling monitor is evaluated on a channel: evacuation by R77, and if that starts no move, leveling. -/
def State.evaluate (s : State) (c : Fin 4) : State :=
  if s.mayEvaluate c then
    match s.evacuationSource c, s.leastWornFree c with
    | some (source, u), some target =>
      match s.movableOwner u with
      | some n => s.startMove n source target .evacuation
      | none => s.level c
    | some _, none => s.level c
    | none, _ => s.level c
  else s

/-- R76: the monitor is evaluated on each of several channels. -/
def State.evaluateAll (s : State) (cs : List (Fin 4)) : State := cs.foldl State.evaluate s

end Sys2Proof.Machine
end

