-- ==== Sys2Proof/Machine/Binding.lean ====
section
/-! DEFINITION. The effect of a BIND (R13), the bind-waiter list: parking (R15), waking (R17, R18), re-examination
(R19), and what follows a request that abandoned an ASSIGNED move (R33, R79, R85). -/
namespace Sys2Proof.Machine

/-- R13, R14: a BIND takes effect with the unit `g`. Answers the state and the channels whose move left the list. -/
def State.bindEffect (s : State) (tag : Byte) (n : Nat) (hold : Bool) (g : Nat) : State × List (Fin 4) :=
  let old := (s.bindingOf n).1
  let gen := (s.bindingOf n).2 + 1
  let s1 := s.modifyUnit g fun u => { u with state := .bound n, holds := 0, retirePending := false }
  let (s2, left) := s1.abandonMove n (some g, gen)
  let s3 := match old with
    | some o => s2.releaseUnit o
    | none => s2
  let s4 := s3.setLogical n ⟨some g, gen, none⟩
  let (s5, h) := if hold then s4.takeHold g n gen else (s4, (0 : Word16))
  let s6 := (s5.count .binds).complete tag (bindRecord tag g gen h)
  let s7 := match old with
    | some o => s6.testTrigger o
    | none => s6
  (s7, left)

/-- R15: the park conditions. -/
def State.parkCondition (s : State) : Bool :=
  (s.units.any fun p => decide (p.2.state = .erasing)) ||
  ((List.finRange 4).any fun c =>
    (s.online c || decide (s.channels[c].state = .restarting)) && !(s.eraseQueues[c]).isEmpty) ||
  (!s.commitWait.isEmpty && s.ckpt.flight.isSome) ||
  ((List.finRange 4).any fun c => decide (s.channels[c].state = .restarting) && !(s.freeOn c).isEmpty)

/-- A parked BIND completes with a status other than OK. -/
def State.refuseWaiter (s : State) (w : Waiter) (st : Status) : State :=
  s.complete w.tag (plainRecord w.tag (encodeReqCode .bind) st)

/-- R17, R18: while the list holds entries and the free pool a unit on an ONLINE channel, the oldest entry wakes. Answers
the state and the channels whose move left the list. -/
def serve : List Waiter → State → State × List (Fin 4)
  | [], s => (s, [])
  | w :: ws, s =>
    match s.firstOnlineFree with
    | none => (s, [])
    | some g =>
      let s1 := s.setWaiters ws
      if w.hold && s1.holdTableFull then serve ws (s1.refuseWaiter w .holdTableFull)
      else
        let (s2, left) := s1.bindEffect w.tag w.logical w.hold g
        let (s3, more) := serve ws s2
        (s3, left ++ more)

def State.serveWaiters (s : State) : State × List (Fin 4) := serve s.waiters s

/-- R19: with no park condition and no usable FREE unit, every parked BIND completes NO_FREE_UNIT, oldest first. -/
def State.reexamine (s : State) : State :=
  if s.parkCondition || s.firstOnlineFree.isSome then s
  else s.waiters.foldl (fun t w => t.refuseWaiter w .noFreeUnit) (s.setWaiters [])

/-- R17, R79: after the changes of a request that ended ASSIGNED moves on the channels `left`, their targets are offered
to the bind-waiter list, and then the monitor is evaluated on every channel whose move left the list. -/
def State.afterAbandon (s : State) (left : List (Fin 4)) : State :=
  if left.any s.online then
    let (s1, more) := s.serveWaiters
    s1.evaluateAll (left ++ more)
  else s.evaluateAll left

/-- R41, R132: the bind-waiter list is served and then re-examined, and the monitor is evaluated on the channels whose
move left the list at a wake. -/
def State.serveAndReexamine (s : State) : State :=
  let (s1, left) := s.serveWaiters
  s1.reexamine.evaluateAll left

end Sys2Proof.Machine
end

