-- ==== Sys2Proof/Machine/Channels.lean ====
section
/-! DEFINITION. The channel controllers: the arbiter (R120, R121), start-up's reads and judgement (R138 to R144), channel
faults (R127), the ends of a restart (R132, R133) and what each owner does with a reply (R123). -/
namespace Sys2Proof.Machine

/-! ### The arbiter -/

/-- R121: the device states in which the arbiters issue image operations. -/
def State.imagesAllowed (s : State) : Bool :=
  match s.device with
  | .starting => true | .formatting => true | .ready => true | .service => true
  | .unformatted => false | .failed _ => false

/-- R121, R147: the device states in which the arbiters issue the erase queues; in FORMATTING, from the unit reset on,
which is when the FORMAT's checkpoint is in flight (R149). -/
def State.erasesAllowed (s : State) : Bool :=
  match s.device with
  | .ready => true | .service => true
  | .formatting => s.ckpt.flight.isSome
  | .starting => false | .unformatted => false | .failed _ => false

/-- What an arbiter may issue (R120). -/
inductive Work where
  | image (w : ImageWork)
  | copy (m : Move)
  | erase (g : Nat)
deriving DecidableEq, Repr

/-- R120, class 1: the pending image operation. -/
def State.imageWork (s : State) (c : Fin 4) : Option Work :=
  if s.imagesAllowed then (s.channels[c].pendingImage).map Work.image else none

/-- R120, class 2: the ASSIGNED move. -/
def State.copyWork (s : State) (c : Fin 4) : Option Work :=
  match s.moves[c] with
  | some m => if m.phase = .assigned ∧ s.device = .ready then some (.copy m) else none
  | none => none

/-- R120, class 3: the head of the erase queue. -/
def State.eraseWork (s : State) (c : Fin 4) : Option Work :=
  if s.erasesAllowed then (s.eraseQueues[c]).head?.map Work.erase else none

/-- R120: the first class that exists. When the channel was idle and an image operation and an erase arrived in one
claim, either may have reached the arbiter first (R121; a free value, log 6). -/
def State.chooseWork (s : State) (c : Fin 4) (ended : Bool) : Option Work :=
  match s.imageWork c, s.eraseWork c with
  | some w, some e => if !ended && Config.eraseReachesFirst s.tick c then some e else some w
  | some w, none => some w
  | none, e => (s.copyWork c).or e

/-- R119: an operation is issued; its deadline starts at the tick counter now. -/
def State.issueOp (s : State) (c : Fin 4) (kind : OpKind) (owner : Owner) : State :=
  s.setChannel c { s.channels[c] with inFlight := some ⟨kind, owner, s.tick⟩ }

/-- R119: the operation in flight leaves the record. -/
def State.endOp (s : State) (c : Fin 4) : State := s.setChannel c { s.channels[c] with inFlight := none }

/-- R120: the arbiter issues what it chose (R122, R80, R37). -/
def State.issueWork (s : State) (c : Fin 4) : Work → State
  | .image w => (s.setPendingImage c none).issueOp c w.kind w.owner
  | .copy m =>
    (s.setMove c (some { m with phase := .copying })).issueOp c (.copy (indexOf m.source) (indexOf m.target)) .relocation
  | .erase g =>
    ((s.setEraseQueues (s.eraseQueues.set c (s.eraseQueues[c]).tail)).setUnitState g .erasing).issueOp c
      (.erase (indexOf g)) .unitManager

/-- R120: the arbiter of a channel chooses when the channel is ONLINE and has nothing in flight. `ended` says that the
claim ended the channel's operation or its restart. -/
def State.arbitrate (s : State) (c : Fin 4) (ended : Bool) : State :=
  if s.online c && (s.channels[c].inFlight).isNone then
    match s.chooseWork c ended with
    | some w => s.issueWork c w
    | none => s
  else s

/-- R120: at the end of a claim the arbiter of each channel chooses. `ended` is the channel whose operation or restart
the claim ended, if any. -/
def State.settle (s : State) (ended : Option (Fin 4)) : State :=
  (List.finRange 4).foldl (fun t c => t.arbitrate c (decide (ended = some c))) s

/-! ### Start-up -/

/-- R144: one bit per channel found ONLINE at the probe. -/
def State.presentBits (s : State) : BitVec 4 :=
  BitVec.ofBool (s.present 3) ++ BitVec.ofBool (s.present 2) ++ BitVec.ofBool (s.present 1) ++ BitVec.ofBool (s.present 0)

/-- Start-up ends in a device state; the STARTED notice is posted in the same claim (R144). -/
def State.endStartup (s : State) (d : DeviceState) (ra rb : SlotResult) (loaded : Option Slot) (gen : Word32) : State :=
  ((s.setDevice d).setStartup ⟨.ended, none⟩).post .started (startedNotice d s.presentBits ra rb loaded gen)

/-- R142: the VALID slot with the higher generation; slot A when both carry the same. -/
def chooseImage (counts : Vector Nat 4) : SlotRead → SlotRead → Option (Slot × List Byte)
  | .bytes a, .bytes b =>
    if validImage counts .a a then
      if validImage counts .b b && decide ((headerGeneration a).toNat < (headerGeneration b).toNat) then some (.b, b)
      else some (.a, a)
    else if validImage counts .b b then some (.b, b) else none
  | .bytes a, .unread => if validImage counts .a a then some (.a, a) else none
  | .unread, .bytes b => if validImage counts .b b then some (.b, b) else none
  | .unread, .unread => none

/-- R142: both slots are judged and the outcome of start-up is chosen, in one claim. -/
def State.judge (s : State) (a b : SlotRead) : State :=
  let ra := judgeSlot s.counts .a a
  let rb := judgeSlot s.counts .b b
  match chooseImage s.counts a b with
  | some (k, bs) => (s.loadImage k bs).endStartup .ready ra rb (some k) (headerGeneration bs)
  | none =>
    if ra = .intact ∨ rb = .intact then s.endStartup (.failed .geometry) ra rb none 0
    else s.endStartup .unformatted ra rb none 0

/-- R139: the read of slot B is placed when the read of slot A has ended; on a channel that is not ONLINE it is handed
back at once and slot B is UNREAD. -/
def State.startReadB (s : State) (a : SlotRead) : State :=
  if s.online (s.slotChannel .b) then
    (s.setStartup ⟨.readingB, some a⟩).setPendingImage (s.slotChannel .b)
      (some ⟨.readImage (s.slotIndex .b), .stateControl⟩)
  else s.judge a .unread

/-- R139: the read of slot A is placed when the probe has ended. -/
def State.startReadA (s : State) : State :=
  if s.online (s.slotChannel .a) then
    (s.setStartup ⟨.readingA, none⟩).setPendingImage (s.slotChannel .a)
      (some ⟨.readImage (s.slotIndex .a), .stateControl⟩)
  else s.startReadB .unread

/-- R139: a start-up read has ended with a result. -/
def State.readEnds (s : State) (r : SlotRead) : State :=
  match s.startup.stage with
  | .readingA => s.startReadB r
  | .readingB => s.judge (s.startup.slotA.getD .unread) r
  | .probing => s
  | .ended => s

/-- R138: the probe ends when all four probes have ended. -/
def State.testProbeEnd (s : State) : State :=
  if s.startup.stage = .probing ∧ ((List.finRange 4).all fun c => decide (s.channels[c].state ≠ .undetermined)) then
    if s.channels[(0 : Fin 4)].state = .absent then s.endStartup (.failed .noMedia) .unread .unread none 0
    else s.startReadA
  else s

/-- R130: a probe ends with its channel ABSENT. -/
def State.probeAbsent (s : State) (c : Fin 4) : State :=
  (s.setChannel c { s.channels[c] with state := .absent, count := 0, inFlight := none }).testProbeEnd

/-- R130: the IDENT of a probe. -/
def State.probeIdentifies (s : State) (c : Fin 4) (n : Word16) : State :=
  if Config.minUnitCount ≤ n.toNat ∧ n.toNat ≤ Config.maxUnitCount then
    (s.setChannel c { s.channels[c] with state := .online, count := n.toNat, inFlight := none }).testProbeEnd
  else s.probeAbsent c

/-! ### FORMAT's slot erases -/

/-- R147: FORMAT places the erase of a slot; on a channel that is not ONLINE it is lost and the FORMAT fails. -/
def State.placeFormatErase (s : State) (k : Slot) : State :=
  if s.online (s.slotChannel k) then
    s.setPendingImage (s.slotChannel k) (some ⟨.erase (s.slotIndex k), .stateControl⟩)
  else s.formatFails .channel

/-- R147: after slot B the erase of slot A is placed; after slot A the durable state is cleared (R94). -/
def State.formatEraseDone (s : State) : State :=
  match s.formatRec with
  | none => s
  | some f =>
    match f.step with
    | .eraseB => (s.setFormatRec (some { f with step := .eraseA })).placeFormatErase .a
    | .eraseA =>
      (s.setFormatRec (some { f with step := .imageWrite })).setCkpt ⟨0, none, [], [], s.ckpt.flight⟩
    | .imageWrite => s

/-! ### Restarts -/

/-- R133: a restart fails; the waiting BINDs are re-examined after the claim. -/
def State.restartFails (s : State) (c : Fin 4) (cause : FaultCause) (reason : RestartReason) (count : Word16) : State :=
  let ch := s.channels[c]
  let s1 := s.setChannel c { ch with state := .faulted, fault := some cause, restart := none, inFlight := none }
  let s2 := match ch.restart with
    | some (.host t) => s1.complete t (restartRecord t .restartFailed c ch.fault (some reason) count)
    | some .orphaned => s1
    | none => s1
  s2.reexamine

/-- R132: a restart succeeds: the channel becomes ONLINE, the request completes, the waiters are served and re-examined,
the monitor is evaluated on the channel, and the arbiter chooses. -/
def State.restartSucceeds (s : State) (c : Fin 4) : State :=
  let ch := s.channels[c]
  let s1 := s.setChannel c { ch with state := .online, fault := none, restart := none, inFlight := none }
  let s2 := match ch.restart with
    | some (.host t) => s1.complete t (restartRecord t .ok c ch.fault none (BitVec.ofNat 16 ch.count))
    | some .orphaned => s1
    | none => s1
  (s2.serveAndReexamine.evaluate c).settle (some c)

/-- R132, R133: the IDENT of a restart. -/
def State.restartIdentifies (s : State) (c : Fin 4) (n : Word16) : State :=
  if n.toNat = s.channels[c].count then s.restartSucceeds c else s.restartFails c .protocol .count n

/-! ### Channel faults -/

/-- R127: an operation lost in flight is handed to its owner (R40, R87, R103, R139, R150). -/
def State.loseInFlight (s : State) (c : Fin 4) (op : Op) : State :=
  match op.owner, op.kind with
  | .unitManager, .erase i => s.discardToHead (globalOf c i)
  | .relocation, _ => s.loseCopy c
  | .checkpoint, .writeImage _ _ => s.checkpointFails .channel true
  | .checkpoint, _ => s.checkpointFails .channel false
  | .stateControl, .readImage _ => s.readEnds .unread
  | .stateControl, _ => s.formatFails .channel
  | .unitManager, _ => s
  | .restart, _ => s

/-- R127, step 4: a pending image operation that has not been issued is handed to its owner as lost. -/
def State.losePending (s : State) (w : Option ImageWork) : State :=
  match w with
  | none => s
  | some w =>
    match w.owner, w.kind with
    | .checkpoint, _ => s.checkpointFails .channel false
    | .stateControl, .readImage _ => s.readEnds .unread
    | .stateControl, _ => s.formatFails .channel
    | .unitManager, _ => s
    | .relocation, _ => s
    | .restart, _ => s

/-- R127: a channel faults: FAULTED with its cause, the CHANNEL_FAULT notice, the lost work handed back in order, and the
waiting BINDs re-examined when the claim is complete. -/
def State.faultChannel (s : State) (c : Fin 4) (cause : FaultCause) (op : Op) : State :=
  let ch := s.channels[c]
  let s1 := s.setChannel c { ch with state := .faulted, fault := some cause, inFlight := none, pendingImage := none }
  let s2 := s1.post .channelFault (channelFaultNotice c cause op.kind s.tick)
  let s3 := s2.loseInFlight c op
  let s4 := s3.losePending ch.pendingImage
  let s5 := s4.loseAssigned c
  (s5.reexamine.evaluate c).settle none

/-- R124, R126: an operation in flight ends without a reply it accepts. The start-up probe makes the channel ABSENT
(R130), a restart fails (R133), and otherwise the channel faults (R127). -/
def State.loseOperation (s : State) (c : Fin 4) (op : Op) (cause : FaultCause) (reason : RestartReason) : State :=
  match op.owner, op.kind with
  | .stateControl, .reset => (s.probeAbsent c).settle (some c)
  | .stateControl, .identify => (s.probeAbsent c).settle (some c)
  | .restart, _ => s.restartFails c cause reason 0
  | .stateControl, .erase _ => s.faultChannel c cause op
  | .stateControl, .copy _ _ => s.faultChannel c cause op
  | .stateControl, .readImage _ => s.faultChannel c cause op
  | .stateControl, .writeImage _ _ => s.faultChannel c cause op
  | .unitManager, _ => s.faultChannel c cause op
  | .relocation, _ => s.faultChannel c cause op
  | .checkpoint, _ => s.faultChannel c cause op

/-! ### Replies that an operation accepts -/

/-- R118: the kinds of reply an operation accepts. -/
def OpKind.accepts : OpKind → Reply → Bool
  | .identify, .ident _ => true
  | .reset, .done => true
  | .erase _, .done => true
  | .erase _, .failErase => true
  | .copy _ _, .done => true
  | .copy _ _, .failProgram => true
  | .copy _ _, .failRead => true
  | .readImage _, .doneBytes _ => true
  | .readImage _, .failRead => true
  | .writeImage _ _, .done => true
  | .writeImage _ _, .failProgram => true
  | _, _ => false

/-- R41: after an erase completion the waiters are served and re-examined, the monitor is evaluated on the channel, and
the arbiter chooses. -/
def State.afterErase (s : State) (c : Fin 4) : State := (s.serveAndReexamine.evaluate c).settle (some c)

/-- R38: wear rises by one, saturating at 65535. -/
def wornBy (w : Word16) : Word16 := if w = 0xFFFF then 0xFFFF else w + 1

/-- R38: the unit's next state at a DONE. -/
def State.eraseOutcome (s : State) (g : Nat) : State :=
  match s.unit? g with
  | none => s
  | some u =>
    let s1 := (s.modifyUnit g fun u => { u with wear := wornBy u.wear }).count .erasesCompleted
    if u.retirePending then s1.retireUnit g .host
    else if s.params.eMax.toNat ≤ (wornBy u.wear).toNat then s1.retireUnit g .worn
    else s1.setUnitState g .free

/-- R38, R41: a DONE reply to the erase of a usable unit. -/
def State.unitEraseDone (s : State) (c : Fin 4) (i : Nat) : State := (s.eraseOutcome (globalOf c i)).afterErase c

/-- R39, R41: a FAIL(ERASE) reply to the erase of a usable unit. -/
def State.unitEraseFails (s : State) (c : Fin 4) (i : Nat) : State :=
  ((s.count .eraseFailures).retireUnit (globalOf c i) .eraseFail).afterErase c

/-- After a move has left the list the monitor is evaluated on its channel (R76) and the arbiter chooses. -/
def State.afterMove (s : State) (c : Fin 4) : State := (s.evaluate c).settle (some c)

/-- R81, R82: a DONE reply to a COPY. -/
def State.copySucceeds (s : State) (c : Fin 4) : State :=
  match s.moves[c] with
  | none => s.settle (some c)
  | some m =>
    if m.phase = .abandoning then ((s.discardToTail m.target).endCopy c m .none).afterMove c
    else (s.commitMove c m).afterMove c

/-- R83: a FAIL(PROGRAM) reply to a COPY. -/
def State.copyFailsProgram (s : State) (c : Fin 4) : State :=
  match s.moves[c] with
  | none => s.settle (some c)
  | some m => ((s.retireUnit m.target .programFail).endCopy c m .program).afterMove c

/-- R84: a FAIL(READ) reply to a COPY. -/
def State.copyFailsRead (s : State) (c : Fin 4) : State :=
  match s.moves[c] with
  | none => s.settle (some c)
  | some m => (((s.discardToTail m.target).count .sourceReadFailures).endCopy c m .read).afterMove c

/-- R101: a DONE reply to a checkpoint's slot erase. -/
def State.slotErased (s : State) (c : Fin 4) : State :=
  match s.ckpt.flight with
  | none => s.settle (some c)
  | some f =>
    ((s.setCkpt { s.ckpt with unconfirmed := [], flight := some { f with phase := .writing } }).placeCheckpointOp f.target
      (.writeImage (s.slotIndex f.target) f.snapshot.image)).settle (some c)

/-- R101: a FAIL(ERASE) reply to a checkpoint's slot erase. -/
def State.slotEraseFails (s : State) (c : Fin 4) : State := ((s.checkpointFails .erase false).reexamine).settle (some c)

/-- R102, R104: a DONE reply to the WRITE IMAGE. -/
def State.imageWritten (s : State) (c : Fin 4) : State := (s.checkpointSucceeds.reexamine).settle (some c)

/-- R102, R106: a FAIL(PROGRAM) reply to the WRITE IMAGE. -/
def State.imageWriteFails (s : State) (c : Fin 4) : State :=
  ((s.checkpointFails .program false).reexamine).settle (some c)

/-- R139: a reply to a start-up READ IMAGE. -/
def State.readReplies (s : State) (c : Fin 4) (r : SlotRead) : State := (s.readEnds r).settle (some c)

/-- R147: a DONE reply to a FORMAT slot erase. -/
def State.formatSlotErased (s : State) (c : Fin 4) : State := s.formatEraseDone.settle (some c)

/-- R150: a FAIL(ERASE) reply to a FORMAT slot erase. -/
def State.formatSlotEraseFails (s : State) (c : Fin 4) : State := (s.formatFails .erase).settle (some c)

/-- R130: the DONE reply to the probe's RESET issues IDENTIFY. -/
def State.probeResets (s : State) (c : Fin 4) : State := s.issueOp c .identify .stateControl

/-- R132: the DONE reply to a restart's RESET issues IDENTIFY. -/
def State.restartResets (s : State) (c : Fin 4) : State := s.issueOp c .identify .restart

/-- R123: a reply of a kind the operation accepts is handed to the operation's owner. The operation has left the record. -/
def State.handReply (s : State) (c : Fin 4) (op : Op) (r : Reply) : State :=
  match op.owner, op.kind, r with
  | .unitManager, .erase i, .done => s.unitEraseDone c i
  | .unitManager, .erase i, .failErase => s.unitEraseFails c i
  | .relocation, .copy _ _, .done => s.copySucceeds c
  | .relocation, .copy _ _, .failProgram => s.copyFailsProgram c
  | .relocation, .copy _ _, .failRead => s.copyFailsRead c
  | .checkpoint, .erase _, .done => s.slotErased c
  | .checkpoint, .erase _, .failErase => s.slotEraseFails c
  | .checkpoint, .writeImage _ _, .done => s.imageWritten c
  | .checkpoint, .writeImage _ _, .failProgram => s.imageWriteFails c
  | .stateControl, .readImage _, .doneBytes bs => s.readReplies c (.bytes bs)
  | .stateControl, .readImage _, .failRead => s.readReplies c .unread
  | .stateControl, .erase _, .done => s.formatSlotErased c
  | .stateControl, .erase _, .failErase => s.formatSlotEraseFails c
  | .stateControl, .reset, .done => s.probeResets c
  | .stateControl, .identify, .ident n => (s.probeIdentifies c n).settle (some c)
  | .restart, .reset, .done => s.restartResets c
  | .restart, .identify, .ident n => s.restartIdentifies c n
  | _, _, _ => s

/-- R125: a stray reply is discarded and counted. -/
def State.strayReply (s : State) : State := s.count .strayReplies

/-- R123 to R125: a reply reaches a channel controller, which knows it by its kind alone (6.2). -/
def State.replyArrives (s : State) (c : Fin 4) (r : Reply) : State :=
  match s.channels[c].inFlight with
  | none => s.strayReply
  | some op =>
    if op.kind.accepts r then (s.endOp c).handReply c op r else s.loseOperation c op .protocol .protocol

/-- While RESET_N is held low every block keeps its hardware-reset values (R138): no event reaches it (log 20). -/
def State.whenRunning (s : State) (f : State → State) : State := if s.resetLow then s else f s

end Sys2Proof.Machine
end

