-- ==== Sys2Proof/Machine/Clock.lean ====
section
/-! DEFINITION. Reset, the tick and the deadlines: HARDWARE_RESET and RESET_N_RELEASE (R138, R170), TICK (R53),
HOLD_EXPIRY (R63) and OPERATION_DEADLINE (R126). -/
namespace Sys2Proof.Machine

/-- HARDWARE_RESET (R138): RESET_N low puts every block in its hardware-reset values. The queue of commands, which is no
block of the part, is kept. -/
def execHardwareReset (s : State) : Host.Outcome State Fault Refusal := .next (State.reset.setPending s.pending)

/-- RESET_N_RELEASE (R138, R130): the start-up probe issues RESET on each of the four channels. -/
def execResetNRelease (s : State) : Host.Outcome State Fault Refusal :=
  .next (if s.resetLow then
    (List.finRange 4).foldl (fun t c => t.issueOp c .reset .stateControl) (s.setResetLow false)
  else s)

/-- TICK (R53): the tick counter advances by one, modulo 2^32; it stays at 0 while RESET_N is low. -/
def execTick (s : State) : Host.Outcome State Fault Refusal :=
  .next (s.whenRunning fun s => s.setTick (s.tick + 1))

/-- R63: the expiry of the entry in a slot. -/
def State.expireHold (s : State) (i : Fin 64) (e : HoldEntry) : State :=
  let s1 := (s.removeHold i e).testTrigger e.unit
  ((s1.count .holdsExpired).post .holdExpired (holdExpiredNotice i e)).settle none

/-- HOLD_EXPIRY (R63): the deadline of the entry in the slot has passed (R54). While it has not, or the slot is free, the
event does not occur (log 1). -/
def execHoldExpiry (slot : Fin 64) (s : State) : Host.Outcome State Fault Refusal :=
  .next (s.whenRunning fun s =>
    match (s.holds[slot]).entry with
    | some e => if deadlinePassed s.tick e.start e.lifetime.toNat then s.expireHold slot e else s
    | none => s)

/-- OPERATION_DEADLINE (R126): the deadline of the channel's operation in flight has passed. While it has not, or nothing
is in flight, the event does not occur (log 1). -/
def execOperationDeadline (c : Fin 4) (s : State) : Host.Outcome State Fault Refusal :=
  .next (s.whenRunning fun s =>
    match s.channels[c].inFlight with
    | some op =>
      if deadlinePassed s.tick op.start op.kind.deadline then s.loseOperation c op .deadline .deadline else s
    | none => s)

end Sys2Proof.Machine
end

