-- ==== Sys2Proof/Machine/Operands.lean ====
section
/-! DEFINITION. The operands of a request and the common checks: admission by device state (R137), flags, ranges and ids
(R158), the parameters by id (R171, R174), the counters by id (R177), and the taking of the intake list's head (R157). -/
namespace Sys2Proof.Machine

/-- R158: bit 0 is defined for LOOKUP, BIND and FORMAT. -/
def definesFlag : ReqCode → Bool
  | .lookup => true | .bind => true | .format => true
  | .unbind => false | .move => false | .release => false | .renew => false | .retire => false | .queryUnit => false
  | .checkpoint => false | .restartChannel => false | .enterService => false | .leaveService => false
  | .getParameter => false | .setParameter => false | .readCounter => false | .clearCounters => false

/-- R158, check 1: bits 1 to 7 are all 0, and bit 0 is set only on a code that defines it. -/
def flagsOk (k : ReqCode) (f : Frame) : Bool := (f.flags &&& 0xFE == 0) && (definesFlag k || !f.flag0)

/-- R137: the requests READY admits: every request except FORMAT and LEAVE_SERVICE. -/
def admittedReady : ReqCode → Bool
  | .format => false | .leaveService => false
  | .lookup => true | .bind => true | .unbind => true | .move => true | .release => true | .renew => true
  | .retire => true | .queryUnit => true | .checkpoint => true | .restartChannel => true | .enterService => true
  | .getParameter => true | .setParameter => true | .readCounter => true | .clearCounters => true

/-- R137: the requests SERVICE admits; a LOOKUP only without HOLD. -/
def admittedService (hold : Bool) : ReqCode → Bool
  | .lookup => !hold
  | .release => true | .renew => true | .retire => true | .queryUnit => true | .checkpoint => true
  | .restartChannel => true | .leaveService => true | .format => true | .getParameter => true | .setParameter => true
  | .readCounter => true | .clearCounters => true
  | .bind => false | .unbind => false | .move => false | .enterService => false

/-- R137: the requests UNFORMATTED admits. -/
def admittedUnformatted : ReqCode → Bool
  | .format => true | .getParameter => true | .setParameter => true | .readCounter => true | .clearCounters => true
  | .restartChannel => true
  | .lookup => false | .bind => false | .unbind => false | .move => false | .release => false | .renew => false
  | .retire => false | .queryUnit => false | .checkpoint => false | .enterService => false | .leaveService => false

/-- R137: the requests STARTING, FORMATTING and FAILED(NO_MEDIA) admit. -/
def admittedAlways : ReqCode → Bool
  | .getParameter => true | .readCounter => true
  | .lookup => false | .bind => false | .unbind => false | .move => false | .release => false | .renew => false
  | .retire => false | .queryUnit => false | .checkpoint => false | .restartChannel => false | .enterService => false
  | .leaveService => false | .format => false | .setParameter => false | .clearCounters => false

/-- R137: the admission table. -/
def admitted (d : DeviceState) (k : ReqCode) (hold : Bool) : Bool :=
  match d with
  | .starting => admittedAlways k
  | .unformatted => admittedUnformatted k
  | .formatting => admittedAlways k
  | .ready => admittedReady k
  | .service => admittedService hold k
  | .failed .noMedia => admittedAlways k
  | .failed .geometry => admittedAlways k || decide (k = .format)
  | .failed .slot => admittedAlways k || decide (k = .format)

/-! ### Parameters and counters by id -/

/-- The five parameters (R171). -/
inductive Param where
  | tHold | eMax | wSpread | cAuto | sMin
deriving DecidableEq, Repr

/-- R171: the parameter of an id, 1 to 5. -/
def paramOfId (b : Byte) : Option Param :=
  match b.toNat with
  | 1 => some .tHold
  | 2 => some .eMax
  | 3 => some .wSpread
  | 4 => some .cAuto
  | 5 => some .sMin
  | _ => none

def Params.get (p : Params) : Param → Word16
  | .tHold => p.tHold | .eMax => p.eMax | .wSpread => p.wSpread | .cAuto => p.cAuto | .sMin => p.sMin

def Params.set (p : Params) (k : Param) (v : Word16) : Params :=
  match k with
  | .tHold => { p with tHold := v }
  | .eMax => { p with eMax := v }
  | .wSpread => { p with wSpread := v }
  | .cAuto => { p with cAuto := v }
  | .sMin => { p with sMin := v }

/-- R171: a parameter's range. -/
def Param.inRange (k : Param) (v : Word16) : Bool :=
  match k with
  | .tHold => decide (1 ≤ v.toNat)
  | .eMax => decide (100 ≤ v.toNat ∧ v.toNat ≤ 65000)
  | .wSpread => decide (v.toNat ≤ 4096)
  | .cAuto => decide (v.toNat ≤ 1024)
  | .sMin => decide (8 ≤ v.toNat ∧ v.toNat ≤ 512)

/-- R177: the place of the counter of an id, 1 to 19. -/
def counterOfId (b : Byte) : Option (Fin 19) :=
  if h : 1 ≤ b.toNat ∧ b.toNat ≤ 19 then some ⟨b.toNat - 1, by omega⟩ else none

/-- R131: the channel a selector names; none above 3. -/
def channelOf (b : Byte) : Option (Fin 4) := if h : b.toNat < 4 then some ⟨b.toNat, h⟩ else none

/-! ### The common checks -/

/-- R146: the FORMAT arguments lie within their limits. -/
def State.formatArgsOk (s : State) (l sMin : Word16) : Bool :=
  let k : Int := if s.device = .service then s.retiredSet.length else 0
  let room : Int := (s.presentUnits : Int) - 2 - k - sMin.toNat
  decide (8 ≤ sMin.toNat ∧ sMin.toNat ≤ 512) &&
  decide (1 ≤ l.toNat ∧ l.toNat ≤ Config.maxLogicals ∧ (l.toNat : Int) ≤ room)

/-- R158, check 3: ranges of arguments, and ids that do not exist. -/
def State.argumentCheck (s : State) (k : ReqCode) (f : Frame) : Option Status :=
  match k with
  | .lookup => if f.number < s.map.length then none else some .outOfRange
  | .bind => if f.number < s.map.length then none else some .outOfRange
  | .unbind => if f.number < s.map.length then none else some .outOfRange
  | .move => if f.number < s.map.length then none else some .outOfRange
  | .retire => if (s.unit? f.number).isSome then none else some .outOfRange
  | .queryUnit => if (s.unit? f.number).isSome then none else some .outOfRange
  | .restartChannel =>
    match channelOf f.selector with
    | some c => if s.channels[c].state = .absent then some .outOfRange else none
    | none => some .outOfRange
  | .format => if s.formatArgsOk f.argA f.argB then none else some .outOfRange
  | .getParameter => if (paramOfId f.selector).isSome then none else some .badRequest
  | .setParameter =>
    match paramOfId f.selector with
    | some p => if p.inRange f.argA then none else some .outOfRange
    | none => some .badRequest
  | .readCounter => if (counterOfId f.selector).isSome then none else some .badRequest
  | .release => none
  | .renew => none
  | .checkpoint => none
  | .enterService => none
  | .leaveService => none
  | .clearCounters => none

/-- R158: the common checks in order; the first that fails. -/
def State.commonCheck (s : State) (k : ReqCode) (f : Frame) : Option Status :=
  if !flagsOk k f then some .badRequest
  else if !admitted s.device k f.flag0 then some .wrongState
  else s.argumentCheck k f

/-- R157: the request unit takes the request at the head of the intake list. With the code of the command's row it makes
the common checks and then the row's effect; a code of no request fails common check 1 (R158); with the code of another
row, or an empty list, the step the row names does not occur and nothing changes (log 1, log 3). -/
def State.takeRequest (s : State) (k : ReqCode) (effect : Frame → State → State) : State :=
  match s.link.intake with
  | [] => s
  | f :: rest =>
    let s1 := s.setLink { s.link with intake := rest }
    match decodeReqCode f.code with
    | none => s1.completePlain f .badRequest
    | some j =>
      if j = k then
        match s1.commonCheck k f with
        | some st => s1.completePlain f st
        | none => effect f s1
      else s

end Sys2Proof.Machine
end

