-- ==== Sys2Proof/Machine/ControlRequests.lean ====
section
/-! DEFINITION. The requests on the device: CHECKPOINT (R96), RESTART_CHANNEL (R131), ENTER_SERVICE (R152), LEAVE_SERVICE
(R153), FORMAT (R146) and its unit reset (R148), the parameters (R173, R174) and the counters (R178, R179). -/
namespace Sys2Proof.Machine

/-- R96: the checks of a CHECKPOINT, in order, and its acceptance. The request stays open until the checkpoint ends. -/
def checkpointEffect (f : Frame) (s : State) : State :=
  if s.ckpt.flight.isSome then s.completePlain f .busy
  else if !s.online (s.slotChannel s.targetSlot) then s.completePlain f .channelDown
  else if s.ckpt.durableGen = 0xFFFFFFFF then
    s.complete f.tag (checkpointRecord f.tag .checkpointFailed 0xFFFFFFFF s.targetSlot .generation 0)
  else (s.startCheckpoint (.host f.tag)).settle none

/-- CHECKPOINT (R96). -/
def execCheckpoint (s : State) : Host.Outcome State Fault Refusal :=
  .next (s.whenRunning fun s => s.takeRequest .checkpoint checkpointEffect)

/-- R131: the restart of a FAULTED channel: RESTARTING, the cause kept, and RESET issued. -/
def State.startRestart (s : State) (c : Fin 4) (tag : Byte) : State :=
  (s.setChannel c { s.channels[c] with state := .restarting, restart := some (.host tag) }).issueOp c .reset .restart

/-- R131. -/
def restartEffect (f : Frame) (s : State) : State :=
  match channelOf f.selector with
  | none => s.completePlain f .outOfRange
  | some c => if s.channels[c].state = .faulted then s.startRestart c f.tag else s.completePlain f .wrongState

/-- RESTART_CHANNEL (R131). -/
def execRestartChannel (s : State) : Host.Outcome State Fault Refusal :=
  .next (s.whenRunning fun s => s.takeRequest .restartChannel restartEffect)

/-- R152: UNIT_HELD while a hold exists, BUSY while a move or a parked BIND does; otherwise the device becomes SERVICE. -/
def enterServiceEffect (f : Frame) (s : State) : State :=
  if 0 < s.holdsInUse then s.completePlain f .unitHeld
  else if ((List.finRange 4).any fun c => (s.moves[c]).isSome) || !s.waiters.isEmpty then s.completePlain f .busy
  else (s.setDevice .service).completePlain f .ok

/-- ENTER_SERVICE (R152). -/
def execEnterService (s : State) : Host.Outcome State Fault Refusal :=
  .next (s.whenRunning fun s => s.takeRequest .enterService enterServiceEffect)

/-- R153: the device becomes READY; after the claim the monitor is evaluated on each channel. -/
def leaveServiceEffect (f : Frame) (s : State) : State :=
  (((s.setDevice .ready).completePlain f .ok).evaluateAll (List.finRange 4)).settle none

/-- LEAVE_SERVICE (R153). -/
def execLeaveService (s : State) : Host.Outcome State Fault Refusal :=
  .next (s.whenRunning fun s => s.takeRequest .leaveService leaveServiceEffect)

/-- R146, R147: BUSY while a checkpoint is in flight; otherwise the device becomes FORMATTING and the erase of slot B is
placed. -/
def formatEffect (f : Frame) (s : State) : State :=
  if s.ckpt.flight.isSome then s.completePlain f .busy
  else
    let rec0 : FormatRec := ⟨.host f.tag, f.argA, f.argB, f.flag0, s.device, .eraseB⟩
    (((s.setDevice .formatting).setFormatRec (some rec0)).placeFormatErase .b).settle none

/-- FORMAT (R146). -/
def execFormat (s : State) : Host.Outcome State Fault Refusal :=
  .next (s.whenRunning fun s => s.takeRequest .format formatEffect)

/-- R27: what the unit reset of a FORMAT taken in SERVICE makes of a unit. -/
def resetKept (keepWear : Bool) (u : UnitRec) : UnitRec :=
  let wear := if keepWear then u.wear else 0
  match u.state with
  | .retired c => ⟨.retired c, wear, u.holds, false⟩
  | .erasing => ⟨.erasing, wear, u.holds, false⟩
  | .free => ⟨.dirty, wear, u.holds, false⟩
  | .dirty => ⟨.dirty, wear, u.holds, false⟩
  | .bound _ => ⟨.dirty, wear, u.holds, false⟩
  | .target _ => ⟨.dirty, wear, u.holds, false⟩
  | .draining => ⟨.dirty, wear, u.holds, false⟩
  | .waiting => ⟨.dirty, wear, u.holds, false⟩

/-- R27: the unit table after the unit reset. -/
def State.resetUnits (s : State) (f : FormatRec) : List (Nat × UnitRec) :=
  if f.takenIn = .service then s.units.map fun p => (p.1, resetKept f.keepWear p.2)
  else (usableUnits s.counts).map fun g => (g, ⟨.dirty, 0, 0, false⟩)

/-- R148: the unit reset. -/
def State.unitReset (s : State) (f : FormatRec) : State :=
  let us := s.resetUnits f
  let s1 := (s.setUnits us).setEraseQueues (dirtyQueues us)
  let s2 := s1.setMap (List.replicate f.l.toNat ⟨none, 0, none⟩)
  let s3 := s2.setParams { s2.params with sMin := f.sMin }
  s3.startFormatCheckpoint.settle none

/-- An erase of a usable unit is in flight on some channel (R148). -/
def State.unitEraseInFlight (s : State) : Bool :=
  (List.finRange 4).any fun c =>
    match s.channels[c].inFlight with
    | some op => decide (op.owner = .unitManager)
    | none => false

/-- R148: both slots are erased, the unit reset is still to come, and, but for a FORMAT taken in SERVICE, no erase of a
usable unit is in flight. -/
def State.unitResetDue (s : State) (f : FormatRec) : Bool :=
  decide (s.device = .formatting) && decide (f.step = .imageWrite) && s.ckpt.flight.isNone &&
  (decide (f.takenIn = .service) || !s.unitEraseInFlight)

/-- FORMAT_UNIT_RESET (R148, R149). While it is not due the event does not occur (log 1). -/
def execFormatUnitReset (s : State) : Host.Outcome State Fault Refusal :=
  .next (s.whenRunning fun s =>
    match s.formatRec with
    | some f => if s.unitResetDue f then s.unitReset f else s
    | none => s)

/-- R173. -/
def getParameterEffect (f : Frame) (s : State) : State :=
  match paramOfId f.selector with
  | some p => s.complete f.tag (getParameterRecord f.tag (s.params.get p))
  | none => s.completePlain f .badRequest

/-- GET_PARAMETER (R173). -/
def execGetParameter (s : State) : Host.Outcome State Fault Refusal :=
  .next (s.whenRunning fun s => s.takeRequest .getParameter getParameterEffect)

/-- R174, R76: the live value becomes argument A; W_spread evaluates the monitor on each channel afterwards. -/
def setParameterEffect (f : Frame) (s : State) : State :=
  match paramOfId f.selector with
  | some p =>
    let s1 := (s.setParams (s.params.set p f.argA)).complete f.tag (setParameterRecord f.tag f.argA (s.params.get p))
    if p = .wSpread then (s1.evaluateAll (List.finRange 4)).settle none else s1
  | none => s.completePlain f .badRequest

/-- SET_PARAMETER (R174). -/
def execSetParameter (s : State) : Host.Outcome State Fault Refusal :=
  .next (s.whenRunning fun s => s.takeRequest .setParameter setParameterEffect)

/-- R178. -/
def readCounterEffect (f : Frame) (s : State) : State :=
  match counterOfId f.selector with
  | some i => s.complete f.tag (readCounterRecord f.tag s.counters[i])
  | none => s.completePlain f .badRequest

/-- READ_COUNTER (R178). -/
def execReadCounter (s : State) : Host.Outcome State Fault Refusal :=
  .next (s.whenRunning fun s => s.takeRequest .readCounter readCounterEffect)

/-- R179. -/
def clearCountersEffect (f : Frame) (s : State) : State :=
  (s.setCounters (Vector.replicate 19 0)).completePlain f .ok

/-- CLEAR_COUNTERS (R179). -/
def execClearCounters (s : State) : Host.Outcome State Fault Refusal :=
  .next (s.whenRunning fun s => s.takeRequest .clearCounters clearCountersEffect)

end Sys2Proof.Machine
end

