-- ==== Sys2Proof/WellFormed.lean ====
section
/-! DEFINITION. Which terms are commands of the part. Channels, hold slots and cut points are bounded by their
types; the one check left is that a transaction discarded for its kind byte has a kind that R154 does not name. -/
namespace Sys2Proof

/-- The byte is one of the four kind bytes of R154. -/
def knownKind (k : Byte) : Bool := (decodeKind k).isSome

/-- R154: a transaction is discarded for its kind byte only when that byte is none of 0x01 to 0x04. -/
def Discard.wellFormed : Discard → Bool
  | .unknownKind k _ => !knownKind k
  | .cutRequest _ => true
  | .cutFetch _ => true
  | .cutStatus _ => true

/-- The well-formed commands. -/
def Instr.wellFormed : Instr → Bool
  | .hardwareReset => true
  | .resetNRelease => true
  | .tick => true
  | .holdExpiry _ => true
  | .operationDeadline _ => true
  | .request _ _ => true
  | .fetch _ => true
  | .status _ => true
  | .linkReset _ => true
  | .transactionDiscarded d => d.wellFormed
  | .lookup => true
  | .bind => true
  | .unbind => true
  | .move => true
  | .release => true
  | .renew => true
  | .retire => true
  | .queryUnit => true
  | .checkpoint => true
  | .restartChannel => true
  | .enterService => true
  | .leaveService => true
  | .format => true
  | .getParameter => true
  | .setParameter => true
  | .readCounter => true
  | .clearCounters => true
  | .eraseDone _ => true
  | .eraseFail _ => true
  | .copyDone _ => true
  | .copyFailProgram _ => true
  | .copyFailRead _ => true
  | .slotEraseDone _ => true
  | .slotEraseFail _ => true
  | .writeImageDone _ => true
  | .writeImageFail _ => true
  | .readImageDone _ _ => true
  | .readImageFail _ => true
  | .probeResetDone _ => true
  | .probeIdent _ _ => true
  | .restartResetDone _ => true
  | .restartIdent _ _ => true
  | .formatSlotEraseDone _ => true
  | .formatSlotEraseFail _ => true
  | .unacceptedReply _ _ => true
  | .strayReply _ _ => true
  | .formatUnitReset => true

end Sys2Proof
end

