-- ==== Sys2Proof/Machine/HostLink.lean ====
section
/-! DEFINITION. The host link's transactions: REQUEST (R155), FETCH (R160, R163), STATUS (R166), LINK_RESET (R168, R169)
and TRANSACTION_DISCARDED (R154). Which of these commands the bytes of a transaction are, `transactionOf` in Decode.lean
says, by the kind byte and the bytes clocked after it. `miso` holds the bytes a transaction shifted out, from its kind byte on (log 14). -/
namespace Sys2Proof.Machine

def zeros (n : Nat) : List Byte := List.replicate n 0

/-- R154, R170: a transaction's MISO bytes; while RESET_N is low the link shifts out 0x00. -/
def State.shiftOut (s : State) (bs : List Byte) : State :=
  s.setMiso (if s.resetLow then zeros bs.length else bs)

/-! ### REQUEST -/

/-- R155: acceptance codes. -/
inductive Acceptance where
  | accepted | queueFull | tagInUse | badFrame
deriving DecidableEq, Repr

def Acceptance.byte : Acceptance → Byte
  | .accepted => 0 | .queueFull => 1 | .tagInUse => 2 | .badFrame => 3

/-- R155: the acceptance tests, in order. -/
def Link.judgeFrame (l : Link) (tag : Byte) : Acceptance :=
  if tag = 0 then .badFrame
  else if tag ∈ l.openTags then .tagInUse
  else if Config.maxOpen ≤ l.openTags.length ∨ Config.maxRecords ≤ l.used then .queueFull
  else .accepted

/-- R155: an accepted request becomes open and joins the tail of the intake list. -/
def Link.accept (l : Link) (f : Frame) : Link :=
  { l with openTags := l.openTags ++ [f.tag], intake := l.intake ++ [f] }

/-- R155: the frame is taken. -/
def State.takeFrame (s : State) (f : Frame) : State :=
  if s.link.judgeFrame f.tag = .accepted then s.setLink (s.link.accept f) else s

/-- REQUEST (R155): the eighth frame byte is taken and the frame is accepted or refused. `extra` bytes follow it: the
acceptance code comes out in the first of them. -/
def execRequest (raw : RawFrame) (extra : Nat) (s : State) : Host.Outcome State Fault Refusal :=
  let f := decodeFrame raw
  let out := zeros 9 ++ ((s.link.judgeFrame f.tag).byte :: zeros extra).take extra
  .next ((s.whenRunning fun s => s.takeFrame f).shiftOut out)

/-! ### FETCH -/

/-- R160: the record a FETCH shifts out; twelve bytes of 0x00 when the queue is empty. -/
def Link.fetchBytes (l : Link) : List Byte :=
  match l.queue with
  | [] => zeros 12
  | r :: _ => r.bytes

/-- R160, R163: the oldest record leaves the queue and the lowest pending notice is placed in the freed slot. -/
def Link.removeHead (l : Link) : Link :=
  match l.queue with
  | [] => l
  | _ :: rest => ({ l with queue := rest } : Link).placeLowest

/-- FETCH (R160). -/
def execFetch (extra : Nat) (s : State) : Host.Outcome State Fault Refusal :=
  let out := zeros 1 ++ s.link.fetchBytes ++ zeros extra
  .next ((s.whenRunning fun s => s.setLink s.link.removeHead).shiftOut out)

/-! ### STATUS -/

/-- R166, byte 8: bit k − 1 set when kind k is pending. -/
def Link.pendingBits (l : Link) : Byte :=
  0#1 ++ BitVec.ofBool (l.notices[(6 : Fin 7)]).isSome ++ BitVec.ofBool (l.notices[(5 : Fin 7)]).isSome ++
    BitVec.ofBool (l.notices[(4 : Fin 7)]).isSome ++ BitVec.ofBool (l.notices[(3 : Fin 7)]).isSome ++
    BitVec.ofBool (l.notices[(2 : Fin 7)]).isSome ++ BitVec.ofBool (l.notices[(1 : Fin 7)]).isSome ++
    BitVec.ofBool (l.notices[(0 : Fin 7)]).isSome

/-- R166, byte 21: a channel's two bits. -/
def moveCode : Option Move → BitVec 2
  | none => 0
  | some m => match m.phase with | .assigned => 1 | .copying => 2 | .abandoning => 3

def State.moveBits (s : State) : Byte :=
  moveCode s.moves[(3 : Fin 4)] ++ moveCode s.moves[(2 : Fin 4)] ++ moveCode s.moves[(1 : Fin 4)] ++
    moveCode s.moves[(0 : Fin 4)]

/-- R166, byte 31. -/
def Ckpt.phaseByte (k : Ckpt) : Byte :=
  match k.flight with
  | none => 0
  | some f => match f.phase with | .erasingSlot => 1 | .writing => 2

/-- R166, R27, R2: whether the fields drawn from the unit and map tables are reported. Tables that do not exist give 0.
Once the tables exist they exist until a hardware reset, so that the tables a FORMAT has not replaced (R121, R150) are
reported in FAILED(SLOT). That they are reported in FORMATTING before the unit reset too is the model's choice: R2 and
R135 say a map exists there only from the unit reset on, R27 and R147 keep the tables (log 9, DESIGN CHOICE). -/
def State.tablesReported (s : State) : Bool := s.tablesExist

/-- R166: a count drawn from the tables. -/
def State.tableField (s : State) (v : Word16) : List Byte := le16 (if s.tablesReported then v else 0)

/-- R166: DIRTY units in all erase queues. -/
def State.eraseBacklog (s : State) : Nat := ((List.finRange 4).map fun c => (s.eraseQueues[c]).length).sum

/-- R166: the 32-byte status block. -/
def State.statusBlock (s : State) : List Byte :=
  [s.device.byte, s.device.causeByte] ++ le32 s.tick ++
  [BitVec.ofNat 8 s.link.openTags.length, BitVec.ofNat 8 s.link.queue.length, s.link.pendingBits, 0] ++
  s.tableField (BitVec.ofNat 16 s.freePool.length) ++ s.tableField (BitVec.ofNat 16 s.eraseBacklog) ++
  s.tableField (BitVec.ofNat 16 s.commitWait.length) ++ s.tableField (BitVec.ofNat 16 s.retiredSet.length) ++
  s.tableField (signed16 s.spareCount) ++
  [BitVec.ofNat 8 s.holdsInUse, s.moveBits] ++ (s.channels.toList.map fun ch => ch.state.byte) ++
  le32 s.ckpt.durableGen ++ [slotByte s.ckpt.durableSlot, s.ckpt.phaseByte]

/-- STATUS (R166): the block is formed and shifted out; nothing else changes. -/
def execStatus (extra : Nat) (s : State) : Host.Outcome State Fault Refusal :=
  .next (s.shiftOut (zeros 1 ++ s.statusBlock ++ zeros extra))

/-! ### LINK RESET -/

/-- R168, steps 1 and 2, and the first row of R169: queue, pending notices, open requests and intake list are empty. -/
def Link.cleared : Link := ⟨[], Vector.replicate 7 none, [], []⟩

/-- R91: a host move becomes orphaned. -/
def Move.orphan (m : Move) : Move :=
  match m.origin with
  | .host _ => { m with origin := .orphaned }
  | .orphaned => m
  | .leveling => m
  | .evacuation => m

/-- R110: a host checkpoint becomes ORPHANED. -/
def Flight.orphan (f : Flight) : Flight :=
  match f.origin with
  | .host _ => { f with origin := .orphaned }
  | .auto => f
  | .format => f
  | .orphaned => f

/-- R134: a host restart becomes ORPHANED. -/
def Channel.orphan (ch : Channel) : Channel := { ch with restart := ch.restart.map fun _ => .orphaned }

/-- R151: a FORMAT becomes orphaned. -/
def FormatRec.orphan (f : FormatRec) : FormatRec := { f with origin := .orphaned }

/-- R169: the hand-offs before the holds: parked BINDs are dropped, long operations orphaned. -/
def State.orphanAll (s : State) : State :=
  let s1 := s.setWaiters []
  let s2 := s1.setMoves (s1.moves.map fun m => m.map Move.orphan)
  let s3 := s2.setCkpt { s2.ckpt with flight := s2.ckpt.flight.map Flight.orphan }
  let s4 := s3.setChannels (s3.channels.map Channel.orphan)
  s4.setFormatRec (s4.formatRec.map FormatRec.orphan)

/-- R68: a DRAINING unit goes through unit release, and its joining the commit-wait set is tested at once (R111). -/
def State.releaseAndTest (s : State) (g : Nat) : State := (s.releaseUnit g).testTrigger g

/-- R68: every hold is removed silently; the DRAINING units are released in ascending global number. -/
def State.removeAllHolds (s : State) : State :=
  let n := s.holdsInUse
  let draining := s.unitsWhere fun u => u.state.isDraining
  let s1 := s.setHolds (s.holds.map fun h => { h with entry := none })
  let s2 := s1.setUnits (s1.units.map fun p => (p.1, { p.2 with holds := 0 }))
  draining.foldl State.releaseAndTest (s2.countBy .resetReleased n)

/-- R168: the effect of LINK RESET. -/
def State.linkReset (s : State) : State :=
  ((((s.setLink Link.cleared).orphanAll).removeAllHolds).count .linkResets).settle none

/-- LINK_RESET (R168). -/
def execLinkReset (extra : Nat) (s : State) : Host.Outcome State Fault Refusal :=
  .next ((s.whenRunning State.linkReset).shiftOut (zeros (1 + extra)))

/-! ### TRANSACTION_DISCARDED -/

/-- R154, R160, R166: the bytes a discarded transaction shifted out. -/
def State.discardBytes (s : State) : Discard → List Byte
  | .unknownKind _ n => zeros (1 + n)
  | .cutRequest n => zeros (1 + n.val)
  | .cutFetch n => zeros 1 ++ s.link.fetchBytes.take n.val
  | .cutStatus n => zeros 1 ++ s.statusBlock.take n.val

/-- TRANSACTION_DISCARDED (R154): the transaction is counted and nothing of it is kept. A FETCH of an empty queue cut short
before its twelfth byte is counted like any other: R154 counts every transaction cut short, R160 and row 16 of R177 leave
out a FETCH of an empty queue without saying whether a cut one is meant (log 11, DESIGN CHOICE). A term that names a known
kind byte as unknown is no transaction of this row, and faults. -/
def execTransactionDiscarded (d : Discard) (s : State) : Host.Outcome State Fault Refusal :=
  if d.wellFormed then .next ((s.whenRunning fun s => s.count .discarded).shiftOut (s.discardBytes d))
  else .fault .illFormedCommand

end Sys2Proof.Machine
end

