-- ==== Sys2Proof/Machine/MapRequests.lean ====
section
/-! DEFINITION. The requests on the map and the relocation list: LOOKUP (R8 to R10), BIND (R11 to R15), UNBIND (R21) and
MOVE (R75). Each effect is a request that has passed the common checks. -/
namespace Sys2Proof.Machine

/-- R9: CHANNEL_DOWN, the unit's channel is FAULTED or RESTARTING. -/
def State.channelDown (s : State) (c : Fin 4) : Bool :=
  decide (s.channels[c].state = .faulted) || decide (s.channels[c].state = .restarting)

/-- R9: the flags of a LOOKUP result, as record and unit stand. -/
def State.lookupFlagsOf (s : State) (n : Nat) : Byte :=
  match s.logical? n with
  | some r =>
    match r.unit with
    | some g =>
      lookupFlags true r.move.isSome (((s.unit? g).map (·.retirePending)).getD false) (s.channelDown (chanOf g))
    | none => 0
  | none => 0

/-- A LOOKUP completes OK and is counted (R8, R10, R177). -/
def State.answerLookup (s : State) (f : Frame) (handle : Word16) : State :=
  (s.count .lookups).complete f.tag
    (lookupRecord f.tag (s.lookupFlagsOf f.number) (s.bindingOf f.number).1 (s.bindingOf f.number).2 handle)

/-- R10: a LOOKUP with HOLD: its checks in order, then the abandonment of the logical's move and the hold. -/
def State.lookupHold (s : State) (f : Frame) : State :=
  match (s.bindingOf f.number).1 with
  | none => s.completePlain f .notBound
  | some g =>
    if !s.online (chanOf g) then s.completePlain f .channelDown
    else if s.holdTableFull then s.completePlain f .holdTableFull
    else
      let (s1, left) := s.abandonMove f.number (s.bindingOf f.number)
      let (s2, h) := s1.takeHold g f.number (s.bindingOf f.number).2
      ((s2.answerLookup f h).afterAbandon left).settle none

/-- R8, R10. -/
def lookupEffect (f : Frame) (s : State) : State := if f.flag0 then s.lookupHold f else s.answerLookup f 0

/-- LOOKUP (R8 to R10). -/
def execLookup (s : State) : Host.Outcome State Fault Refusal :=
  .next (s.whenRunning fun s => s.takeRequest .lookup lookupEffect)

/-- R11, R12, R15: the hold check, then the first FREE unit on an ONLINE channel; without one the BIND parks while a park
condition holds and otherwise completes NO_FREE_UNIT. -/
def bindRequest (f : Frame) (s : State) : State :=
  if f.flag0 && s.holdTableFull then s.completePlain f .holdTableFull
  else
    match s.firstOnlineFree with
    | some g =>
      let (s1, left) := s.bindEffect f.tag f.number f.flag0 g
      (s1.afterAbandon left).settle none
    | none =>
      if s.parkCondition then s.setWaiters (s.waiters ++ [⟨f.tag, f.number, f.flag0⟩])
      else s.completePlain f .noFreeUnit

/-- BIND (R11 to R15). -/
def execBind (s : State) : Host.Outcome State Fault Refusal :=
  .next (s.whenRunning fun s => s.takeRequest .bind bindRequest)

/-- R21: the steps of an UNBIND of logical `n`, BOUND to `g`. -/
def State.unbindLogical (s : State) (tag : Byte) (n g : Nat) : State :=
  let gen := (s.bindingOf n).2 + 1
  let (s1, left) := s.abandonMove n (none, gen)
  let s2 := (s1.releaseUnit g).setLogical n ⟨none, gen, none⟩
  let s3 := ((s2.count .unbinds).complete tag (unbindRecord tag gen)).testTrigger g
  (s3.afterAbandon left).settle none

/-- R21. -/
def unbindEffect (f : Frame) (s : State) : State :=
  match (s.bindingOf f.number).1 with
  | none => s.completePlain f .notBound
  | some g => s.unbindLogical f.tag f.number g

/-- UNBIND (R21). -/
def execUnbind (s : State) : Host.Outcome State Fault Refusal :=
  .next (s.whenRunning fun s => s.takeRequest .unbind unbindEffect)

/-- R75: the checks of a host MOVE, in order, and its start. The request stays open until the move leaves the list. -/
def moveEffect (f : Frame) (s : State) : State :=
  match s.logical? f.number with
  | none => s.completePlain f .notBound
  | some r =>
    match r.unit with
    | none => s.completePlain f .notBound
    | some g =>
      if r.move.isSome || (s.moves[chanOf g]).isSome then s.completePlain f .busy
      else if !s.online (chanOf g) then s.completePlain f .channelDown
      else if 0 < ((s.unit? g).map (·.holds)).getD 0 then s.completePlain f .unitHeld
      else
        match s.leastWornFree (chanOf g) with
        | none => s.completePlain f .noFreeUnit
        | some t => (s.startMove f.number g t (.host f.tag)).settle none

/-- MOVE (R75). -/
def execMove (s : State) : Host.Outcome State Fault Refusal :=
  .next (s.whenRunning fun s => s.takeRequest .move moveEffect)

end Sys2Proof.Machine
end

