-- ==== Sys2Proof/Machine/Replies.lean ====
section
/-! DEFINITION. The commands that are a die's replies. A reply does not name the operation it answers; the controller knows
it by its kind alone (6.2). Each row's command is a reply of the row's kind: with the row's operation in flight it has the
row's effect, and with any other operation, or none, in flight it is what R123 to R125 make of that reply (log 2). -/
namespace Sys2Proof.Machine

/-- The operation in flight on a channel: its owner and its kind. -/
def State.flying (s : State) (c : Fin 4) : Option (Owner × OpKind) :=
  (s.channels[c].inFlight).map fun op => (op.owner, op.kind)

/-- ERASE_DONE (R38, R41): a DONE reply to the erase of a usable unit. -/
def execEraseDone (c : Fin 4) (s : State) : Host.Outcome State Fault Refusal :=
  .next (s.whenRunning fun s =>
    match s.flying c with
    | some (.unitManager, .erase i) => (s.endOp c).unitEraseDone c i
    | _ => s.replyArrives c .done)

/-- ERASE_FAIL (R39, R41): a FAIL(ERASE) reply to the erase of a usable unit. -/
def execEraseFail (c : Fin 4) (s : State) : Host.Outcome State Fault Refusal :=
  .next (s.whenRunning fun s =>
    match s.flying c with
    | some (.unitManager, .erase i) => (s.endOp c).unitEraseFails c i
    | _ => s.replyArrives c .failErase)

/-- COPY_DONE (R81, R82): a DONE reply to a COPY. -/
def execCopyDone (c : Fin 4) (s : State) : Host.Outcome State Fault Refusal :=
  .next (s.whenRunning fun s =>
    match s.flying c with
    | some (.relocation, .copy _ _) => (s.endOp c).copySucceeds c
    | _ => s.replyArrives c .done)

/-- COPY_FAIL_PROGRAM (R83): a FAIL(PROGRAM) reply to a COPY. -/
def execCopyFailProgram (c : Fin 4) (s : State) : Host.Outcome State Fault Refusal :=
  .next (s.whenRunning fun s =>
    match s.flying c with
    | some (.relocation, .copy _ _) => (s.endOp c).copyFailsProgram c
    | _ => s.replyArrives c .failProgram)

/-- COPY_FAIL_READ (R84): a FAIL(READ) reply to a COPY. -/
def execCopyFailRead (c : Fin 4) (s : State) : Host.Outcome State Fault Refusal :=
  .next (s.whenRunning fun s =>
    match s.flying c with
    | some (.relocation, .copy _ _) => (s.endOp c).copyFailsRead c
    | _ => s.replyArrives c .failRead)

/-- SLOT_ERASE_DONE (R101): a DONE reply to a checkpoint's slot erase. -/
def execSlotEraseDone (c : Fin 4) (s : State) : Host.Outcome State Fault Refusal :=
  .next (s.whenRunning fun s =>
    match s.flying c with
    | some (.checkpoint, .erase _) => (s.endOp c).slotErased c
    | _ => s.replyArrives c .done)

/-- SLOT_ERASE_FAIL (R101, R106): a FAIL(ERASE) reply to a checkpoint's slot erase. -/
def execSlotEraseFail (c : Fin 4) (s : State) : Host.Outcome State Fault Refusal :=
  .next (s.whenRunning fun s =>
    match s.flying c with
    | some (.checkpoint, .erase _) => (s.endOp c).slotEraseFails c
    | _ => s.replyArrives c .failErase)

/-- WRITE_IMAGE_DONE (R102, R104): a DONE reply to the WRITE IMAGE. -/
def execWriteImageDone (c : Fin 4) (s : State) : Host.Outcome State Fault Refusal :=
  .next (s.whenRunning fun s =>
    match s.flying c with
    | some (.checkpoint, .writeImage _ _) => (s.endOp c).imageWritten c
    | _ => s.replyArrives c .done)

/-- WRITE_IMAGE_FAIL (R102, R106): a FAIL(PROGRAM) reply to the WRITE IMAGE. -/
def execWriteImageFail (c : Fin 4) (s : State) : Host.Outcome State Fault Refusal :=
  .next (s.whenRunning fun s =>
    match s.flying c with
    | some (.checkpoint, .writeImage _ _) => (s.endOp c).imageWriteFails c
    | _ => s.replyArrives c .failProgram)

/-- READ_IMAGE_DONE (R139): a DONE reply with its bytes to a start-up READ IMAGE. -/
def execReadImageDone (c : Fin 4) (bytes : List Byte) (s : State) : Host.Outcome State Fault Refusal :=
  .next (s.whenRunning fun s =>
    match s.flying c with
    | some (.stateControl, .readImage _) => (s.endOp c).readReplies c (.bytes bytes)
    | _ => s.replyArrives c (.doneBytes bytes))

/-- READ_IMAGE_FAIL (R139): a FAIL(READ) reply to a start-up READ IMAGE. -/
def execReadImageFail (c : Fin 4) (s : State) : Host.Outcome State Fault Refusal :=
  .next (s.whenRunning fun s =>
    match s.flying c with
    | some (.stateControl, .readImage _) => (s.endOp c).readReplies c .unread
    | _ => s.replyArrives c .failRead)

/-- PROBE_RESET_DONE (R130): a DONE reply to the probe's RESET. -/
def execProbeResetDone (c : Fin 4) (s : State) : Host.Outcome State Fault Refusal :=
  .next (s.whenRunning fun s =>
    match s.flying c with
    | some (.stateControl, .reset) => (s.endOp c).probeResets c
    | _ => s.replyArrives c .done)

/-- PROBE_IDENT (R130, R138): an IDENT reply at the start-up probe. -/
def execProbeIdent (c : Fin 4) (count : Word16) (s : State) : Host.Outcome State Fault Refusal :=
  .next (s.whenRunning fun s =>
    match s.flying c with
    | some (.stateControl, .identify) => ((s.endOp c).probeIdentifies c count).settle (some c)
    | _ => s.replyArrives c (.ident count))

/-- RESTART_RESET_DONE (R132): a DONE reply to a restart's RESET. -/
def execRestartResetDone (c : Fin 4) (s : State) : Host.Outcome State Fault Refusal :=
  .next (s.whenRunning fun s =>
    match s.flying c with
    | some (.restart, .reset) => (s.endOp c).restartResets c
    | _ => s.replyArrives c .done)

/-- RESTART_IDENT (R132, R133): an IDENT reply during a restart. -/
def execRestartIdent (c : Fin 4) (count : Word16) (s : State) : Host.Outcome State Fault Refusal :=
  .next (s.whenRunning fun s =>
    match s.flying c with
    | some (.restart, .identify) => (s.endOp c).restartIdentifies c count
    | _ => s.replyArrives c (.ident count))

/-- FORMAT_SLOT_ERASE_DONE (R147): a DONE reply to a FORMAT slot erase. -/
def execFormatSlotEraseDone (c : Fin 4) (s : State) : Host.Outcome State Fault Refusal :=
  .next (s.whenRunning fun s =>
    match s.flying c with
    | some (.stateControl, .erase _) => (s.endOp c).formatSlotErased c
    | _ => s.replyArrives c .done)

/-- FORMAT_SLOT_ERASE_FAIL (R150): a FAIL(ERASE) reply to a FORMAT slot erase. -/
def execFormatSlotEraseFail (c : Fin 4) (s : State) : Host.Outcome State Fault Refusal :=
  .next (s.whenRunning fun s =>
    match s.flying c with
    | some (.stateControl, .erase _) => (s.endOp c).formatSlotEraseFails c
    | _ => s.replyArrives c .failErase)

/-- UNACCEPTED_REPLY (R124): a reply of a kind the operation in flight does not accept ends the probe (R130) or the restart
(R133), or faults the channel with cause PROTOCOL (R127). -/
def execUnacceptedReply (c : Fin 4) (r : Reply) (s : State) : Host.Outcome State Fault Refusal :=
  .next (s.whenRunning fun s =>
    match s.channels[c].inFlight with
    | some op => if op.kind.accepts r then s.replyArrives c r else s.loseOperation c op .protocol .protocol
    | none => s.replyArrives c r)

/-- STRAY_REPLY (R125): a reply that arrives while nothing is in flight is discarded and counted. -/
def execStrayReply (c : Fin 4) (r : Reply) (s : State) : Host.Outcome State Fault Refusal :=
  .next (s.whenRunning fun s =>
    match s.channels[c].inFlight with
    | none => s.strayReply
    | some _ => s.replyArrives c r)

end Sys2Proof.Machine
end

