-- ==== Sys2Proof/Machine/UnitRequests.lean ====
section
/-! DEFINITION. The requests on holds and units: RELEASE (R61), RENEW (R62), RETIRE (R47, R48) and QUERY_UNIT (R50). Each
effect is a request that has passed the common checks. -/
namespace Sys2Proof.Machine

/-- R61: RELEASE of a current handle. The result gives the unit's state and holds count after the removal. -/
def State.releaseHold (s : State) (f : Frame) (i : Fin 64) (e : HoldEntry) : State :=
  let s1 := s.removeHold i e
  let r := match s1.unit? e.unit with
    | some u => releaseRecord f.tag e u.state.byte u.holds
    | none => releaseRecord f.tag e 0 0
  ((s1.complete f.tag r).testTrigger e.unit).settle none

/-- R61. -/
def releaseEffect (f : Frame) (s : State) : State :=
  match s.currentHandle f.argA with
  | none => s.completePlain f .staleHold
  | some (i, e) => s.releaseHold f i e

/-- RELEASE (R61). -/
def execRelease (s : State) : Host.Outcome State Fault Refusal :=
  .next (s.whenRunning fun s => s.takeRequest .release releaseEffect)

/-- R62: the entry's start tick becomes the tick counter now and its lifetime the value of T_hold now. -/
def renewEffect (f : Frame) (s : State) : State :=
  match s.currentHandle f.argA with
  | none => s.completePlain f .staleHold
  | some (i, e) =>
    (s.setHolds (s.holds.set i ⟨(s.holds[i]).seq, some { e with start := s.tick, lifetime := s.params.tHold }⟩)).complete
      f.tag (renewRecord f.tag e.unit s.tick s.params.tHold)

/-- RENEW (R62). -/
def execRenew (s : State) : Host.Outcome State Fault Refusal :=
  .next (s.whenRunning fun s => s.takeRequest .renew renewEffect)

/-- R47: a RETIRE completes OK and reports the unit as it stands. -/
def State.answerRetire (s : State) (f : Frame) : State :=
  match s.unit? f.number with
  | some u => s.complete f.tag (retireRecord f.tag f.number u)
  | none => s.completePlain f .outOfRange

/-- R47, R48: the re-examination of R19 is of the effect that R48 gives the row, and a RETIRE completes after its effect:
the NO_FREE_UNIT records stand before the RETIRE's own. -/
def State.reexamineAndAnswer (s : State) (f : Frame) : State := s.reexamine.answerRetire f

/-- R48: retire_pending is set on a unit. -/
def State.markRetirePending (s : State) (g : Nat) : State := s.modifyUnit g fun u => { u with retirePending := true }

/-- The move of which a TARGET unit is the target (R26). -/
def State.moveOfTarget (s : State) (g : Nat) : Option Move :=
  match s.moves[chanOf g] with
  | some m => if m.target = g then some m else none
  | none => none

/-- R48, R85, R86: RETIRE of a TARGET unit, by the state of its move. -/
def State.retireTarget (s : State) (f : Frame) (g : Nat) : State :=
  match s.moveOfTarget g with
  | none => (s.markRetirePending g).answerRetire f
  | some m =>
    match m.phase with
    | .assigned =>
      let s1 := (s.clearMoveRef m.logical).retireUnit g .host
      let s2 := s1.endMove (chanOf g) m .moveAbandoned .none (s.bindingOf m.logical)
      ((s2.answerRetire f).evaluate (chanOf g)).settle none
    | .copying =>
      let s1 := (s.clearMoveRef m.logical).setMove (chanOf g) (some { m with phase := .abandoning })
      (s1.markRetirePending g).answerRetire f
    | .abandoning => (s.markRetirePending g).answerRetire f

/-- R48: a RETIRE acts on the unit according to its state. -/
def State.retireByState (s : State) (f : Frame) (g : Nat) (u : UnitRec) : State :=
  match u.state with
  | .retired _ => s.completePlain f .alreadyRetired
  | .free => (s.retireUnit g .host).reexamineAndAnswer f
  | .dirty => ((s.leaveQueue g).retireUnit g .host).reexamineAndAnswer f
  | .waiting => (s.retireUnit g .host).reexamineAndAnswer f
  | .draining => (s.retireUnit g .host).answerRetire f
  | .erasing => (s.markRetirePending g).answerRetire f
  | .bound _ =>
    if u.retirePending then s.answerRetire f
    else (((s.markRetirePending g).answerRetire f).evaluate (chanOf g)).settle none
  | .target _ => s.retireTarget f g

/-- R47, R48. -/
def retireEffect (f : Frame) (s : State) : State :=
  match s.unit? f.number with
  | some u => s.retireByState f f.number u
  | none => s.completePlain f .outOfRange

/-- RETIRE (R47, R48). -/
def execRetire (s : State) : Host.Outcome State Fault Refusal :=
  .next (s.whenRunning fun s => s.takeRequest .retire retireEffect)

/-- R50. -/
def queryEffect (f : Frame) (s : State) : State :=
  match s.unit? f.number with
  | some u => s.complete f.tag (queryRecord f.tag u s.channels[chanOf f.number].state)
  | none => s.completePlain f .outOfRange

/-- QUERY_UNIT (R50). -/
def execQueryUnit (s : State) : Host.Outcome State Fault Refusal :=
  .next (s.whenRunning fun s => s.takeRequest .queryUnit queryEffect)

end Sys2Proof.Machine
end

