-- ==== Sys2Proof/Machine/Dispatch.lean ====
section
/-! DEFINITION. One arm per command: the call of its meaning. -/
namespace Sys2Proof.Machine

def exec (i : Instr) (s : State) : Host.Outcome State Fault Refusal :=
  match i with
  | .hardwareReset => Sys2Proof.Machine.execHardwareReset s
  | .resetNRelease => Sys2Proof.Machine.execResetNRelease s
  | .tick => Sys2Proof.Machine.execTick s
  | .holdExpiry slot => Sys2Proof.Machine.execHoldExpiry slot s
  | .operationDeadline c => Sys2Proof.Machine.execOperationDeadline c s
  | .request raw extra => Sys2Proof.Machine.execRequest raw extra s
  | .fetch extra => Sys2Proof.Machine.execFetch extra s
  | .status extra => Sys2Proof.Machine.execStatus extra s
  | .linkReset extra => Sys2Proof.Machine.execLinkReset extra s
  | .transactionDiscarded d => Sys2Proof.Machine.execTransactionDiscarded d s
  | .lookup => Sys2Proof.Machine.execLookup s
  | .bind => Sys2Proof.Machine.execBind s
  | .unbind => Sys2Proof.Machine.execUnbind s
  | .move => Sys2Proof.Machine.execMove s
  | .release => Sys2Proof.Machine.execRelease s
  | .renew => Sys2Proof.Machine.execRenew s
  | .retire => Sys2Proof.Machine.execRetire s
  | .queryUnit => Sys2Proof.Machine.execQueryUnit s
  | .checkpoint => Sys2Proof.Machine.execCheckpoint s
  | .restartChannel => Sys2Proof.Machine.execRestartChannel s
  | .enterService => Sys2Proof.Machine.execEnterService s
  | .leaveService => Sys2Proof.Machine.execLeaveService s
  | .format => Sys2Proof.Machine.execFormat s
  | .getParameter => Sys2Proof.Machine.execGetParameter s
  | .setParameter => Sys2Proof.Machine.execSetParameter s
  | .readCounter => Sys2Proof.Machine.execReadCounter s
  | .clearCounters => Sys2Proof.Machine.execClearCounters s
  | .eraseDone c => Sys2Proof.Machine.execEraseDone c s
  | .eraseFail c => Sys2Proof.Machine.execEraseFail c s
  | .copyDone c => Sys2Proof.Machine.execCopyDone c s
  | .copyFailProgram c => Sys2Proof.Machine.execCopyFailProgram c s
  | .copyFailRead c => Sys2Proof.Machine.execCopyFailRead c s
  | .slotEraseDone c => Sys2Proof.Machine.execSlotEraseDone c s
  | .slotEraseFail c => Sys2Proof.Machine.execSlotEraseFail c s
  | .writeImageDone c => Sys2Proof.Machine.execWriteImageDone c s
  | .writeImageFail c => Sys2Proof.Machine.execWriteImageFail c s
  | .readImageDone c bytes => Sys2Proof.Machine.execReadImageDone c bytes s
  | .readImageFail c => Sys2Proof.Machine.execReadImageFail c s
  | .probeResetDone c => Sys2Proof.Machine.execProbeResetDone c s
  | .probeIdent c count => Sys2Proof.Machine.execProbeIdent c count s
  | .restartResetDone c => Sys2Proof.Machine.execRestartResetDone c s
  | .restartIdent c count => Sys2Proof.Machine.execRestartIdent c count s
  | .formatSlotEraseDone c => Sys2Proof.Machine.execFormatSlotEraseDone c s
  | .formatSlotEraseFail c => Sys2Proof.Machine.execFormatSlotEraseFail c s
  | .unacceptedReply c r => Sys2Proof.Machine.execUnacceptedReply c r s
  | .strayReply c r => Sys2Proof.Machine.execStrayReply c r s
  | .formatUnitReset => Sys2Proof.Machine.execFormatUnitReset s

end Sys2Proof.Machine
end

