-- ==== Sys2Proof/Machine/Step.lean ====
section
/-! DEFINITION. A step takes the command at the front of the queue and runs it on the state with the queue's rest; on an
empty queue the block idles (log 5). -/
namespace Sys2Proof.Machine

/-- The state with a command put at the front of its queue. -/
def State.push (s : State) (i : Instr) : State := s.setPending (i :: s.pending)

/-- The state with the command a table word spells at the front of its queue; unchanged where the word spells none. -/
def State.withFetchWord (s : State) (nbits w : Nat) : State :=
  match decodeTableWord nbits w with
  | some i => s.push i
  | none => s

/-- One step. -/
def step (s : State) : Host.Outcome State Fault Refusal :=
  match s.pending with
  | [] => .next s
  | i :: rest => exec i (s.setPending rest)

end Sys2Proof.Machine
end

