-- ==== Sys2Proof/Safety.lean ====
section
/-! DEFINITION. The terms in which claims are stated: a request as the request unit finds it, the state after its answer,
views of a state, and the invariants of the machine. -/
namespace Sys2Proof.Machine

/-! ### Requests -/

/-- The command that takes a request of each code. -/
def requestCommand : ReqCode → Instr
  | .lookup => .lookup
  | .bind => .bind
  | .unbind => .unbind
  | .move => .move
  | .release => .release
  | .renew => .renew
  | .retire => .retire
  | .queryUnit => .queryUnit
  | .checkpoint => .checkpoint
  | .restartChannel => .restartChannel
  | .enterService => .enterService
  | .leaveService => .leaveService
  | .format => .format
  | .getParameter => .getParameter
  | .setParameter => .setParameter
  | .readCounter => .readCounter
  | .clearCounters => .clearCounters

/-- RESET_N is high and the frame `f` of a request `k`, whose tag is open, stands at the head of the intake list with
`rest` behind it (R156, R157). -/
structure State.Finds (s : State) (k : ReqCode) (f : Frame) (rest : List Frame) : Prop where
  running : s.resetLow = false
  head : s.link.intake = f :: rest
  code : f.code = encodeReqCode k
  opened : f.tag ∈ s.link.openTags

/-- The request found at the head has passed the common checks (R158). -/
structure State.Passes (s : State) (k : ReqCode) (f : Frame) (rest : List Frame) : Prop extends s.Finds k f rest where
  passes : s.commonCheck k f = none

/-- The head of the intake list has been taken; its request stays open (R157). -/
def State.taken (s : State) (rest : List Frame) : State := { s with link := { s.link with intake := rest } }

/-- The request `f` has been taken and its record `r` placed: its tag is free and its reserved slot is the queued record
(R156). Nothing but the host link has changed. -/
def State.answered (s : State) (f : Frame) (rest : List Frame) (r : Record) : State :=
  { s with link := { s.link with
      intake := rest, openTags := s.link.openTags.erase f.tag, queue := s.link.queue ++ [r] } }

/-- A completion with byte 3 and the eight result bytes 0 (R158). -/
def emptyRecord (f : Frame) (status : Byte) : Record := ⟨f.tag, f.code, status, 0, 0, 0, 0, 0⟩

/-! ### Views -/

/-- The state of a unit, when it has a record. -/
def State.stateOf (s : State) (g : Nat) : Option UnitState := (s.unit? g).map (·.state)

/-- The fields that only resets, ticks, transactions, start-up, FORMAT, SERVICE and SET_PARAMETER change. -/
def State.SameControl (s t : State) : Prop :=
  t.pending = s.pending ∧ t.resetLow = s.resetLow ∧ t.miso = s.miso ∧ t.tick = s.tick ∧ t.device = s.device ∧
  t.startup = s.startup ∧ t.formatRec = s.formatRec ∧ t.params = s.params

/-- R29: the record that unit release gives a unit. `recorded` says that the durable image, the unconfirmed BOUND set or
the snapshot of a checkpoint in flight holds the unit as BOUND. -/
def released (recorded : Bool) (u : UnitRec) : UnitRec :=
  { u with
    state :=
      if u.retirePending then .retired .host
      else if 0 < u.holds then .draining
      else if recorded then .waiting
      else .dirty
    retirePending := false }

/-- R45: the record of a unit that a COPY or a lost erase may have written: RETIRED(HOST) or DIRTY. -/
def discarded (u : UnitRec) : UnitRec :=
  { u with state := if u.retirePending then .retired .host else .dirty, retirePending := false }

/-- R36: the erase queues once `g` has been let go: it stands at the tail of its channel's queue when it is DIRTY. -/
def JoinsTail (s t : State) (g : Nat) : Prop :=
  t.eraseQueues =
    if t.stateOf g = some .dirty then s.eraseQueues.set (chanOf g) (s.eraseQueues[chanOf g] ++ [g]) else s.eraseQueues

/-- R60: the unit table and the erase queues after a hold on `g` has been removed. -/
def HoldGone (s t : State) (g : Nat) : Prop :=
  (∀ u, s.unit? g = some u → t.unit? g = some
    (if u.state = .draining ∧ u.holds = 1 then released (s.ckpt.recordsBound g) { u with holds := 0 }
     else { u with holds := u.holds - 1 })) ∧
  (∀ x, x ≠ g → t.unit? x = s.unit? x) ∧ JoinsTail s t g

/-- R111: the six conditions of an automatic checkpoint, where `g` may have joined the commit-wait set of `t`. -/
def AutoDue (s t : State) (g : Nat) : Prop :=
  t.stateOf g = some .waiting ∧ s.device = .ready ∧ 0 < s.params.cAuto.toNat ∧
  s.params.cAuto.toNat ≤ t.commitWait.length ∧ s.ckpt.flight = none ∧
  s.channels[s.slotChannel s.targetSlot].state = .online ∧ s.ckpt.durableGen ≠ 0xFFFFFFFF

/-- R111, R96, R98, R100: the checkpoint unit and the channels after the claim of `g`'s unit release. An automatic
checkpoint that is due has taken its snapshot of the tables of `t` and placed its slot erase. -/
def AutoCheckpoint (s t : State) (g : Nat) : Prop :=
  (AutoDue s t g →
    t.ckpt = { s.ckpt with
      flight := some ⟨.erasingSlot, .auto, s.targetSlot, t.takeSnapshot s.targetSlot⟩ } ∧
    t.channels = s.channels.set (s.slotChannel s.targetSlot)
      { s.channels[s.slotChannel s.targetSlot] with
        pendingImage := some ⟨.erase (s.slotIndex s.targetSlot), .checkpoint⟩ }) ∧
  (¬ AutoDue s t g → t.ckpt = s.ckpt ∧ t.channels = s.channels)

/-- R85, R86: the relocation list and the move's target after the move that the record `r` names has been abandoned by a
BIND, an UNBIND or a hold; `left` holds its channel when it has left the list. -/
def MoveAbandoned (s t : State) (r : LogicalRec) (left : List (Fin 4)) : Prop :=
  (r.move = none → left = [] ∧ t.moves = s.moves) ∧
  (∀ c m, r.move = some c → s.moves[c] = some m →
    (m.phase = .assigned → left = [c] ∧ t.moves = s.moves.set c none ∧
      t.unit? m.target = (s.unit? m.target).map fun u => { u with state := .free }) ∧
    (m.phase = .copying → left = [] ∧ t.moves = s.moves.set c (some { m with phase := .abandoning }) ∧
      t.unit? m.target = s.unit? m.target))

/-- The unit `x` is neither a unit of the list nor the target of the move that the record `r` names. -/
def Untouched (s : State) (r : LogicalRec) (touched : List Nat) (x : Nat) : Prop :=
  x ∉ touched ∧ ∀ c m, r.move = some c → s.moves[c] = some m → x ≠ m.target

/-- Records stay in their order, `r` is the last placed, and its tag is free (R156, R159). -/
def PlacedLast (s t : State) (tag : Byte) (r : Record) : Prop :=
  s.link.queue <+: t.link.queue ∧ t.link.queue.getLast? = some r ∧ tag ∉ t.link.openTags

/-- R177: each counter has risen by the number given, but for the notices-coalesced counter, which R162 counts. -/
def Counted (s t : State) (rise : Counter → Nat) : Prop :=
  ∀ k, k ≠ .noticesCoalesced → t.counter k = s.counter k + BitVec.ofNat 32 (rise k)

/-- R13, R14, R29, R58: `t` is `s` after a BIND of tag `tag` for logical `n` has taken effect with the FREE unit `g`, where
`r` was the logical's record, `u` the unit's, and `hold` the request's HOLD: the unit is BOUND, the logical names it with its
generation raised by one, the logical's move is abandoned (`left` holds its channel when it has left the list), its old unit
has gone through unit release, the hold asked for is taken, and the record is placed. All else but the notices and counters
that these changes bring is as in `s`. -/
def BoundBy (s t : State) (tag : Byte) (n : Nat) (hold : Bool) (r : LogicalRec) (g : Nat) (u : UnitRec)
    (left : List (Fin 4)) : Prop :=
  ∃ h : Word16, s.SameControl t ∧ t.waiters = s.waiters ∧
    PlacedLast s t tag ⟨tag, 2, 0, 0, BitVec.ofNat 16 g, r.generation + 1, h, 0⟩ ∧
    t.map = s.map.set n ⟨some g, r.generation + 1, none⟩ ∧
    t.unit? g = some ⟨.bound n, u.wear, if hold = true then 1 else 0, false⟩ ∧
    (hold = false → h = 0 ∧ t.holds = s.holds) ∧
    (hold = true → ∃ i : Fin 64,
      let q : Byte := if (s.holds[i]).seq = 255 then 1 else (s.holds[i]).seq + 1
      (s.holds[i]).entry = none ∧ (∀ j : Fin 64, j < i → (s.holds[j]).entry ≠ none) ∧
      h = BitVec.ofNat 16 (i.val * 256 + q.toNat) ∧
      t.holds = s.holds.set i ⟨q, some ⟨q, g, n, r.generation + 1, s.tick, s.params.tHold⟩⟩) ∧
    (∀ o v, r.unit = some o → s.unit? o = some v →
      t.unit? o = some (released (s.ckpt.recordsBound o) v) ∧ JoinsTail s t o ∧ AutoCheckpoint s t o ∧
      Counted s t (fun
        | .binds => 1 | .holdsTaken => if hold = true then 1 else 0 | .movesAbandoned => left.length
        | .retirements => if v.retirePending = true then 1 else 0 | _ => 0)) ∧
    (r.unit = none → t.eraseQueues = s.eraseQueues ∧ t.ckpt = s.ckpt ∧ t.channels = s.channels ∧
      Counted s t (fun | .binds => 1 | .holdsTaken => if hold = true then 1 else 0 | _ => 0)) ∧
    MoveAbandoned s t r left ∧ (∀ x, Untouched s r [g] x → r.unit ≠ some x → t.unit? x = s.unit? x)

/-- R44, R52: the notices of one retirement that leaves the spare count `spare`. -/
def Link.retirement (l : Link) (g : Nat) (cause : Cause) (spare : Int) (sMin : Word16) : Link :=
  let l1 := l.post .unitRetired (unitRetiredNotice g cause)
  if spare < (sMin.toNat : Int) then l1.post .lowSpares (lowSparesNotice spare sMin) else l1

/-- R29, R45, R82, R84: the notices of a unit that is let go, which is retired when its mark `marked` is set. -/
def Link.letGo (l : Link) (marked : Bool) (g : Nat) (spare : Int) (sMin : Word16) : Link :=
  if marked = true then l.retirement g .host spare sMin else l

/-- R89, R90: the report of a move that has left the list of channel `c`: the completion of a host's MOVE, a MOVE_RESULT
notice for a leveling or an evacuation move that did not commit, and nothing for an orphaned one. -/
def Link.moveOutcome (l : Link) (c : Fin 4) (m : Move) (st : Status) (why : MoveReason) (after : Option Nat × Word16)
    (now : Word32) : Link :=
  let notice (origin : Byte) : Record := ⟨0, 6, st.byte, 0, BitVec.ofNat 16 m.logical, BitVec.ofNat 16 m.source,
    BitVec.ofNat 16 m.target, join16 origin (why.code.setWidth 8)⟩
  match m.origin with
  | .host tag => { l with
      openTags := l.openTags.erase tag, queue := l.queue ++ [moveRecord tag st c m why after now] }
  | .orphaned => l
  | .leveling => if st = .ok then l else l.post .moveResult (notice 1)
  | .evacuation => if st = .ok then l else l.post .moveResult (notice 2)

/-- R77, R78: a BOUND unit of a channel that carries no hold and whose logical has no move. -/
def State.Movable (s : State) (c : Fin 4) (g : Nat) (u : UnitRec) (n : Nat) : Prop :=
  s.unit? g = some u ∧ chanOf g = c ∧ u.state = .bound n ∧ u.holds = 0 ∧
  ∃ r, s.logical? n = some r ∧ r.move = none

/-- A FREE unit of a channel. -/
def State.FreeUnit (s : State) (c : Fin 4) (g : Nat) (u : UnitRec) : Prop :=
  s.unit? g = some u ∧ chanOf g = c ∧ u.state = .free

/-- R34: the least-worn FREE unit of a channel, ties to the lowest global number. -/
def State.LeastWornFree (s : State) (c : Fin 4) (g : Nat) : Prop :=
  ∃ u, s.FreeUnit c g u ∧ ∀ x v, s.FreeUnit c x v → u.wear.toNat < v.wear.toNat ∨ (u.wear = v.wear ∧ g ≤ x)

/-- R77: the pair that evacuation moves: the lowest-numbered movable unit with retire_pending set, its owner, and the
least-worn FREE unit of the channel. -/
def State.Evacuates (s : State) (c : Fin 4) (b n t : Nat) : Prop :=
  (∃ u, s.Movable c b u n ∧ u.retirePending = true) ∧
  (∀ x v m, s.Movable c x v m → v.retirePending = true → b ≤ x) ∧ s.LeastWornFree c t

/-- R78: the pair that leveling moves: the least-worn movable unit and the most-worn FREE unit, both ties to the lowest
global number, under the four conditions and the wear test. -/
def State.Levels (s : State) (c : Fin 4) (b n f : Nat) : Prop :=
  0 < s.params.wSpread.toNat ∧ (s.params.sMin.toNat : Int) ≤ s.spareCount ∧
  (∃ x y v w, x ≠ y ∧ s.FreeUnit c x v ∧ s.FreeUnit c y w) ∧
  ∃ u v, s.Movable c b u n ∧ s.FreeUnit c f v ∧
    (∀ x w m, s.Movable c x w m → u.wear.toNat < w.wear.toNat ∨ (u.wear = w.wear ∧ b ≤ x)) ∧
    (∀ x w, s.FreeUnit c x w → w.wear.toNat < v.wear.toNat ∨ (v.wear = w.wear ∧ f ≤ x)) ∧
    u.wear.toNat + s.params.wSpread.toNat ≤ v.wear.toNat

/-- R114: a snapshot that records tables the part can have: a geometry of the part with slot A's channel present, a
generation, L within P − 2, parameters within their ranges, one record for each usable unit in ascending number, owners
below L and distinct, and no retire_pending on a RETIRED record. -/
structure Snapshot.Recordable (k : Snapshot) : Prop where
  counts : ∀ c : Fin 4, k.counts[c] = 0 ∨ (64 ≤ k.counts[c] ∧ k.counts[c] ≤ 1024)
  slotA : k.counts[(0 : Fin 4)] ≠ 0
  generation : k.generation ≠ 0
  logicals : 1 ≤ k.generations.length ∧ k.generations.length + 2 ≤ k.counts.toList.sum
  params : k.params.inRange = true
  keys : k.units.map (·.1) = usableUnits k.counts
  owners : ∀ p ∈ k.units, ∀ n, p.2.state = .bound n → n < k.generations.length
  distinct : (k.units.filterMap fun p => match p.2.state with | .bound n => some n | _ => none).Nodup
  retired : ∀ p ∈ k.units, ∀ c, p.2.state = .retired c → p.2.retirePending = false

/-! ### Invariants -/

/-- R155, R156, R162: the open requests and the queued records keep within their bounds, tags are distinct and not 0, and
while any kind is pending the two number 32. -/
structure LinkInv (s : State) : Prop where
  openBound : s.link.openTags.length ≤ 16
  sumBound : s.link.openTags.length + s.link.queue.length ≤ 32
  distinct : s.link.openTags.Nodup
  nonzero : (0 : Byte) ∉ s.link.openTags
  full : ∀ k : Fin 7, (s.link.notices[k]).isSome = true → s.link.openTags.length + s.link.queue.length = 32
  counted : ∀ (k : Fin 7) (p : PendingNotice), s.link.notices[k] = some p → p.count ≠ 0

/-- R55, R57: an occupied slot's entry carries the slot's sequence counter, and no entry has sequence 0. -/
def HoldInv (s : State) : Prop :=
  ∀ (i : Fin 64) (e : HoldEntry), (s.holds[i]).entry = some e → e.sequence = (s.holds[i]).seq ∧ e.sequence ≠ 0

/-- R171: a parameter set within its ranges. -/
def Params.Legal (p : Params) : Prop :=
  1 ≤ p.tHold.toNat ∧ (100 ≤ p.eMax.toNat ∧ p.eMax.toNat ≤ 65000) ∧ p.wSpread.toNat ≤ 4096 ∧ p.cAuto.toNat ≤ 1024 ∧
  (8 ≤ p.sMin.toNat ∧ p.sMin.toNat ≤ 512)

/-- R171: every live value is within its range, and so is the S_min that a running FORMAT will make live (R146). -/
def ParamInv (s : State) : Prop :=
  s.params.Legal ∧ ∀ f, s.formatRec = some f → 8 ≤ f.sMin.toNat ∧ f.sMin.toNat ≤ 512

/-- R135, R138: start-up runs exactly in STARTING, and a FORMAT record is held exactly in FORMATTING. -/
def DeviceInv (s : State) : Prop :=
  (s.device = .starting ↔ s.startup.stage ≠ .ended) ∧ (s.device = .formatting ↔ s.formatRec.isSome = true)

/-- R93, R95, R97: the durable slot is none exactly when the durable generation is 0; a checkpoint in flight writes the
next generation to the slot that does not hold the durable image; none is in flight in STARTING, or in FORMATTING before
the unit reset; in FORMATTING the checkpoint in flight is the FORMAT's; and from the erase of slot A on the durable
generation is 0 there. -/
structure CkptInv (s : State) : Prop where
  slot : s.ckpt.durableSlot = none ↔ s.ckpt.durableGen = 0
  flight : ∀ f, s.ckpt.flight = some f →
    s.ckpt.durableGen ≠ 0xFFFFFFFF ∧ f.snapshot.generation = s.ckpt.durableGen + 1 ∧ s.ckpt.durableSlot ≠ some f.target
  starting : s.device = .starting → s.ckpt.flight = none
  early : ∀ f, s.formatRec = some f → f.step ≠ .imageWrite → s.ckpt.flight = none
  own : ∀ f g, s.formatRec = some f → s.ckpt.flight = some g → g.origin = .format
  late : ∀ f, s.formatRec = some f → f.step = .imageWrite → s.ckpt.durableGen = 0

/-- R2, R27: the tables are there: in READY, in SERVICE, in FORMATTING from the unit reset on, and before it in a FORMAT
taken in SERVICE. -/
def State.TablesStand (s : State) : Prop :=
  s.device = .ready ∨ s.device = .service ∨
  ∃ f, s.formatRec = some f ∧ (f.takenIn = .service ∨ s.ckpt.flight ≠ none)

/-- R25: wherever there is a unit table, it holds one record for each usable unit of the geometry and no other; the probe has
settled each channel before there is one (R138). -/
structure KeysInv (s : State) : Prop where
  keys : s.units ≠ [] ∨ s.TablesStand → s.units.map (·.1) = usableUnits s.counts
  probed : s.startup.stage ≠ .probing → ∀ c : Fin 4, s.channels[c].state ≠ .undetermined

/-- R30: a unit that the durable BOUND set, the unconfirmed BOUND set or the snapshot of a checkpoint in flight holds as BOUND
is not FREE, DIRTY or ERASING, nor TARGET. R94: from the erase of slot A on a FORMAT leaves both sets empty. -/
structure RecordedInv (s : State) : Prop where
  kept : ∀ g u, s.unit? g = some u → s.ckpt.recordsBound g = true →
    u.state ≠ .free ∧ u.state ≠ .dirty ∧ u.state ≠ .erasing ∧ ∀ n, u.state ≠ .target n
  cleared : ∀ f, s.formatRec = some f → f.step = .imageWrite → s.ckpt.durableBound = [] ∧ s.ckpt.unconfirmed = []

/-! ### The law of the tables -/

/-- A hold-table entry names the unit (R59). -/
def HoldSlot.names (h : HoldSlot) (g : Nat) : Bool :=
  match h.entry with
  | some e => e.unit == g
  | none => false

/-- The number of hold-table entries that name a unit (R59). -/
def State.holdsOf (s : State) (g : Nat) : Nat := (s.holds.toList.filter fun h => h.names g).length

/-- Each unit has one record, in ascending number, under a number that the four channels can give (R25). -/
def State.keysLawful (s : State) : Bool :=
  decide ((s.units.map (·.1)).Pairwise (· < ·)) && (s.units.all fun p => decide (p.1 < 4096)) &&
  (s.channels.toList.all fun ch => decide (ch.count ≤ 1024))

/-- R26, R36: each erase queue holds exactly the DIRTY units of its channel, none twice. -/
def State.queuesLawful (s : State) : Bool :=
  ((List.finRange 4).all fun c => decide (s.eraseQueues[c]).Nodup &&
    (s.eraseQueues[c]).all fun g => (chanOf g == c) && (s.stateOf g == some .dirty)) &&
  s.units.all fun p => !p.2.state.isDirty || (s.eraseQueues[chanOf p.1]).contains p.1

/-- R3: a BOUND record names a unit BOUND to it, and a BOUND unit is named by its owner's record. -/
def State.bindingsLawful (s : State) : Bool :=
  (s.map.zipIdx.all fun q =>
    match q.1.unit with
    | some g => s.stateOf g == some (.bound q.2)
    | none => q.1.move.isNone) &&
  (s.units.all fun p =>
    match p.2.state with
    | .bound n => (s.bindingOf n).1 == some p.1
    | _ => true) &&
  s.waiters.all fun w => decide (w.logical < s.map.length)

/-- R71: a move of the list stands on its ONLINE channel with its target TARGET; while it is ASSIGNED or COPYING its
logical's record names its source and refers to it; its COPY is in flight exactly when it is not ASSIGNED. -/
def State.moveLawful (s : State) (c : Fin 4) (m : Move) : Bool :=
  (chanOf m.source == c) && (chanOf m.target == c) && s.online c && (s.stateOf m.target == some (.target m.logical)) &&
  (decide (m.phase = .abandoning) ||
    (match s.logical? m.logical with
     | some r => r.unit == some m.source && r.move == some c
     | none => false)) &&
  (!decide (m.phase = .assigned) || (((s.unit? m.target).map (·.retirePending)) == some false)) &&
  ((s.channels[c].inFlight.map (·.owner)) == some .relocation) == !decide (m.phase = .assigned)

/-- R5, R26, R71: the moves of the list, the move references and the TARGET units answer one another. -/
def State.movesLawful (s : State) : Bool :=
  ((List.finRange 4).all fun c =>
    match s.moves[c] with
    | some m => s.moveLawful c m
    | none => true) &&
  (s.map.zipIdx.all fun q =>
    match q.1.move with
    | some c =>
      (match s.moves[c] with
       | some m => m.logical == q.2 && !decide (m.phase = .abandoning)
       | none => false)
    | none => true) &&
  s.units.all fun p =>
    match p.2.state with
    | .target n =>
      (match s.moves[chanOf p.1] with
       | some m => m.target == p.1 && m.logical == n
       | none => false)
    | _ => true

/-- R116, R119: the operation in flight on a channel is of a kind its owner issues, in a channel state in which it does,
and the owner's record is the one that waits for it. -/
def State.flightLawful (s : State) (c : Fin 4) (op : Op) : Bool :=
  match op.owner, op.kind with
  | .unitManager, .erase i => s.online c && decide (i < 1024) && (s.stateOf (globalOf c i) == some .erasing)
  | .relocation, .copy _ _ => s.online c && (s.moves[c]).isSome
  | .checkpoint, .erase _ => s.online c
  | .checkpoint, .writeImage _ _ => s.online c
  | .stateControl, .reset => decide (s.channels[c].state = .undetermined)
  | .stateControl, .identify => decide (s.channels[c].state = .undetermined)
  | .stateControl, .erase _ => s.online c
  | .stateControl, .readImage _ => s.online c
  | .restart, .reset => decide (s.channels[c].state = .restarting)
  | .restart, .identify => decide (s.channels[c].state = .restarting)
  | _, _ => false

/-- R122: a pending image operation is one that its owner places. -/
def ImageWork.lawful (w : ImageWork) : Bool :=
  match w.owner, w.kind with
  | .checkpoint, .erase _ => true
  | .checkpoint, .writeImage _ _ => true
  | .stateControl, .erase _ => true
  | .stateControl, .readImage _ => true
  | _, _ => false

/-- R26, R116, R119: operations in flight and ERASING units answer one another. -/
def State.flightsLawful (s : State) : Bool :=
  ((List.finRange 4).all fun c =>
    (match s.channels[c].inFlight with
     | some op => s.flightLawful c op
     | none => true) &&
    (match s.channels[c].pendingImage with
     | some w => w.lawful
     | none => true)) &&
  s.units.all fun p => !decide (p.2.state = .erasing) ||
    (s.channels[chanOf p.1].inFlight.map fun op => (op.owner, op.kind)) == some (.unitManager, .erase (indexOf p.1))

/-- R59, R25, R31: each unit's holds count is the number of entries that name it; only BOUND, DRAINING and RETIRED units
carry holds, a DRAINING unit always does; retire_pending stands only in ERASING, BOUND and TARGET. -/
def State.holdsLawful (s : State) : Bool :=
  (s.units.all fun p => decide (p.2.holds = s.holdsOf p.1) &&
    match p.2.state with
    | .free => p.2.holds == 0 && !p.2.retirePending
    | .dirty => p.2.holds == 0 && !p.2.retirePending
    | .erasing => p.2.holds == 0
    | .bound _ => true
    | .target _ => p.2.holds == 0
    | .draining => p.2.holds != 0 && !p.2.retirePending
    | .waiting => p.2.holds == 0 && !p.2.retirePending
    | .retired _ => !p.2.retirePending) &&
  s.holds.toList.all fun h =>
    match h.entry with
    | some e => (s.unit? e.unit).isSome
    | none => true

/-- The device states in which no table exists (R2, R27). -/
def DeviceState.tableless : DeviceState → Bool
  | .starting => true | .unformatted => true | .failed .noMedia => true | .failed .geometry => true
  | .formatting => false | .ready => false | .service => false | .failed .slot => false

/-- R69, R72, R16, R2, R27, R138: holds, moves and parked BINDs exist in READY only; no table exists before a load or a
unit reset; while RESET_N is low no channel has been probed. -/
def State.deviceLawful (s : State) : Bool :=
  (decide (s.device = .ready) ||
    (decide (s.holdsInUse = 0) && (s.moves.toList.all (·.isNone)) && s.waiters.isEmpty)) &&
  (!s.device.tableless || (s.units.isEmpty && s.map.isEmpty && s.eraseQueues.toList.all (·.isEmpty))) &&
  (decide (s.device = .starting) == !decide (s.startup.stage = .ended)) &&
  (decide (s.device = .formatting) == s.formatRec.isSome) &&
  (!s.resetLow || (decide (s.device = .starting) &&
    s.channels.toList.all fun ch => decide (ch.state = .undetermined) && ch.inFlight.isNone))

/-- The law of the tables: R3, R25, R26, R36, R59, R71, R72 and R69 together. -/
def State.lawful (s : State) : Bool :=
  s.keysLawful && s.queuesLawful && s.bindingsLawful && s.movesLawful && s.flightsLawful && s.holdsLawful &&
  s.deviceLawful

/-! ### Open requests -/

def MoveOrigin.tag : MoveOrigin → List Byte
  | .host t => [t]
  | .orphaned => [] | .leveling => [] | .evacuation => []

def CkptOrigin.tag : CkptOrigin → List Byte
  | .host t => [t]
  | .auto => [] | .format => [] | .orphaned => []

def Origin.tag : Origin → List Byte
  | .host t => [t]
  | .orphaned => []

/-- The tags of the requests that wait somewhere (R156): in the intake list, parked, or accepted as a move, a checkpoint, a
restart or a FORMAT. -/
def State.heldTags (s : State) : List Byte :=
  s.link.intake.map (·.tag) ++ s.waiters.map (·.tag) ++
  (s.moves.toList.flatMap fun m => (m.map fun m => m.origin.tag).getD []) ++
  ((s.ckpt.flight.map fun f => f.origin.tag).getD []) ++
  (s.channels.toList.flatMap fun ch => (ch.restart.map Origin.tag).getD []) ++
  ((s.formatRec.map fun f => f.origin.tag).getD [])

/-- R156, R157: the open tags are the tags of the requests that wait, each waiting in one place; a restart origin stands in
RESTARTING only (R116). -/
structure TagInv (s : State) : Prop where
  held : s.heldTags.Perm s.link.openTags
  distinct : s.link.openTags.Nodup
  restart : ∀ c : Fin 4, (s.channels[c].restart).isSome = true → s.channels[c].state = .restarting

/-! ### Commands that carry a die's reply -/

/-- The reply a command brings to a channel; none for the other commands. Replies are matched by their kind alone (6.2),
so two commands that bring the same reply are the same event to the controller (log 2). -/
def replyOf : Instr → Option (Fin 4 × Reply)
  | .eraseDone c => some (c, .done)
  | .eraseFail c => some (c, .failErase)
  | .copyDone c => some (c, .done)
  | .copyFailProgram c => some (c, .failProgram)
  | .copyFailRead c => some (c, .failRead)
  | .slotEraseDone c => some (c, .done)
  | .slotEraseFail c => some (c, .failErase)
  | .writeImageDone c => some (c, .done)
  | .writeImageFail c => some (c, .failProgram)
  | .readImageDone c bs => some (c, .doneBytes bs)
  | .readImageFail c => some (c, .failRead)
  | .probeResetDone c => some (c, .done)
  | .probeIdent c n => some (c, .ident n)
  | .restartResetDone c => some (c, .done)
  | .restartIdent c n => some (c, .ident n)
  | .formatSlotEraseDone c => some (c, .done)
  | .formatSlotEraseFail c => some (c, .failErase)
  | .unacceptedReply c r => some (c, r)
  | .strayReply c r => some (c, r)
  | .hardwareReset => none
  | .resetNRelease => none
  | .tick => none
  | .holdExpiry _ => none
  | .operationDeadline _ => none
  | .request _ _ => none
  | .fetch _ => none
  | .status _ => none
  | .linkReset _ => none
  | .transactionDiscarded _ => none
  | .lookup => none
  | .bind => none
  | .unbind => none
  | .move => none
  | .release => none
  | .renew => none
  | .retire => none
  | .queryUnit => none
  | .checkpoint => none
  | .restartChannel => none
  | .enterService => none
  | .leaveService => none
  | .format => none
  | .getParameter => none
  | .setParameter => none
  | .readCounter => none
  | .clearCounters => none
  | .formatUnitReset => none

/-- The command is a reply or the passing of an operation's deadline. -/
def endsOperation : Instr → Bool
  | .operationDeadline _ => true
  | i => (replyOf i).isSome

/-- R136: the changes of the device state, each with the commands at which it may happen. -/
inductive DeviceEdge (i : Instr) : DeviceState → DeviceState → Prop where
  | reset (a : DeviceState) : i = .hardwareReset → DeviceEdge i a .starting
  | noMedia : endsOperation i = true → DeviceEdge i .starting (.failed .noMedia)
  | loaded : endsOperation i = true → DeviceEdge i .starting .ready
  | geometry : endsOperation i = true → DeviceEdge i .starting (.failed .geometry)
  | unformatted : endsOperation i = true → DeviceEdge i .starting .unformatted
  | format (a : DeviceState) : i = .format →
      (a = .unformatted ∨ a = .service ∨ a = .failed .geometry ∨ a = .failed .slot) → DeviceEdge i a .formatting
  | formatLost (a : DeviceState) : i = .format →
      (a = .unformatted ∨ a = .service ∨ a = .failed .geometry ∨ a = .failed .slot) → DeviceEdge i a (.failed .slot)
  | formatted : endsOperation i = true → DeviceEdge i .formatting .ready
  | formatFails : endsOperation i = true ∨ i = .formatUnitReset → DeviceEdge i .formatting (.failed .slot)
  | enter : i = .enterService → DeviceEdge i .ready .service
  | leave : i = .leaveService → DeviceEdge i .service .ready

end Sys2Proof.Machine
end

