-- ==== Sys2Proof/Certificates/Slice0/Obligations.lean ====
section
/-! DEFINITION. The statements for the provers, in the order of OBLIGATIONS.json. Each docstring names the rules of spec/
that a statement formalises, and the log entry of a clause that rests on the model's own choice. -/
open Sys2Proof Sys2Proof.Machine

/-! ### The queue of commands, resets and the clock -/

/-- The step takes the command at the front of the queue; on an empty queue the block idles (log 5). -/
def Obligations.StepRunsFrontCommand : Prop :=
  (∀ (c : Instr) (rest : List Instr) (s : State), s.pending = c :: rest → step s = exec c { s with pending := rest }) ∧
  (∀ s : State, s.pending = [] → step s = .next s)

/-- Every well-formed command completes in every state: none is refused and none faults. (On the states in which its event
is not enabled it changes nothing: log 1.) -/
def Obligations.EveryCommandCompletes : Prop :=
  ∀ (i : Instr) (s : State), i.wellFormed = true → ∃ t : State, exec i s = .next t

/-- R2, R16, R27, R53, R56, R72, R94, R117, R138, R170, R172, R179: RESET_N low gives every block its hardware-reset
values: of a channel record nothing is left, nor of an image operation that waited for it. The queue of commands is kept
(log 5). -/
def Obligations.HardwareResetClearsEveryBlock : Prop :=
  ∀ s : State, ∃ t : State, exec .hardwareReset s = .next t ∧ t.pending = s.pending ∧ t.resetLow = true ∧
    t.device = .starting ∧ t.startup = ⟨.probing, none⟩ ∧ t.tick = 0 ∧ t.params = ⟨2000, 3000, 256, 64, 32⟩ ∧ (∀ k : Fin 19, t.counters[k] = 0) ∧
    t.map = [] ∧ t.waiters = [] ∧ t.units = [] ∧ (∀ c : Fin 4, t.eraseQueues[c] = []) ∧
    (∀ i : Fin 64, t.holds[i] = ⟨0, none⟩) ∧ (∀ c : Fin 4, t.moves[c] = none) ∧
    t.ckpt = ⟨0, none, [], [], none⟩ ∧ t.formatRec = none ∧
    (∀ c : Fin 4, t.channels[c].state = .undetermined ∧ t.channels[c].count = 0 ∧ t.channels[c].inFlight = none ∧
      t.channels[c].pendingImage = none ∧ t.channels[c].fault = none ∧ t.channels[c].restart = none) ∧
    t.link.queue = [] ∧ (∀ k : Fin 7, t.link.notices[k] = none) ∧ t.link.openTags = [] ∧ t.link.intake = [] ∧
    t.attnN = true

/-- The state right after reset satisfies every invariant that the statements below say is kept. -/
def Obligations.InvariantsHoldAtReset : Prop :=
  State.reset.lawful = true ∧ LinkInv State.reset ∧ HoldInv State.reset ∧ ParamInv State.reset ∧
  DeviceInv State.reset ∧ CkptInv State.reset ∧ TagInv State.reset ∧ KeysInv State.reset ∧ RecordedInv State.reset ∧
  (State.reset.waiters ≠ [] → State.reset.firstOnlineFree = none)

/-- R53, R138, R130: TICK advances the tick counter by one, modulo 2^32, and leaves it while RESET_N is low; the release
of RESET_N issues the probe's RESET on each channel. That TICK does nothing else (log 4) and that a release with RESET_N
high leaves the state as it is (log 1) are the model's own choices. -/
def Obligations.ClockCommandsComplete : Prop :=
  ∀ s : State,
    exec .tick s = .next (if s.resetLow = true then s else { s with tick := s.tick + 1 }) ∧
    exec .resetNRelease s = .next (if s.resetLow = true then
      { s with
        resetLow := false
        channels := s.channels.map fun ch => { ch with inFlight := some ⟨.reset, .stateControl, s.tick⟩ } }
      else s)

/-- R54: the deadline set at `start` with length `d` has passed `n` ticks later exactly when `n` is at least `d`, whatever
the wrap of the counter. -/
def Obligations.DeadlinePassesAtItsTick : Prop :=
  ∀ (start : Word32) (d n : Nat), n < 2 ^ 32 →
    (deadlinePassed (start + BitVec.ofNat 32 n) start d = true ↔ d ≤ n)

/-- The model's own choices (logs 1, 3, 20): a command whose event is not enabled changes nothing, and while RESET_N is low
no command but the two of the pin itself changes more than the bytes a transaction shifts out, which are 0x00 (R170); a
transaction discarded or cut short is not counted there. A term that is no transaction faults (log 21). -/
def Obligations.EventsNotEnabledChangeNothing : Prop :=
  (∀ s : State, s.resetLow = false →
    (∀ i : Fin 64, (∀ e, (s.holds[i]).entry = some e → deadlinePassed s.tick e.start e.lifetime.toNat = false) →
      exec (.holdExpiry i) s = .next s) ∧
    (∀ c : Fin 4, (∀ op, s.channels[c].inFlight = some op → deadlinePassed s.tick op.start op.kind.deadline = false) →
      exec (.operationDeadline c) s = .next s) ∧
    ((∀ f, s.formatRec = some f → s.unitResetDue f = false) → exec .formatUnitReset s = .next s) ∧
    (∀ k, s.link.intake = [] → exec (requestCommand k) s = .next s) ∧
    (∀ k j f rest, s.link.intake = f :: rest → decodeReqCode f.code = some j → j ≠ k →
      exec (requestCommand k) s = .next s)) ∧
  (∀ s : State, s.resetLow = true →
    (∀ i : Instr, (replyOf i).isSome = true ∨ (∃ k, i = requestCommand k) ∨ (∃ j, i = .holdExpiry j) ∨
      (∃ c, i = .operationDeadline c) ∨ i = .tick ∨ i = .formatUnitReset → exec i s = .next s) ∧
    (∀ raw n, exec (.request raw n) s = .next { s with miso := zeros (9 + n) }) ∧
    (∀ n, exec (.fetch n) s = .next { s with miso := zeros (13 + n) }) ∧
    (∀ n, exec (.status n) s = .next { s with miso := zeros (33 + n) }) ∧
    (∀ n, exec (.linkReset n) s = .next { s with miso := zeros (1 + n) }) ∧
    (∀ (k : Byte) (n : Nat),
      (k ≠ 1 ∧ k ≠ 2 ∧ k ≠ 3 ∧ k ≠ 4 →
        exec (.transactionDiscarded (.unknownKind k n)) s = .next { s with miso := zeros (1 + n) }) ∧
      (k = 1 ∨ k = 2 ∨ k = 3 ∨ k = 4 →
        exec (.transactionDiscarded (.unknownKind k n)) s = .fault .illFormedCommand)) ∧
    (∀ n : Fin 8, exec (.transactionDiscarded (.cutRequest n)) s = .next { s with miso := zeros (1 + n.val) }) ∧
    (∀ n : Fin 12, exec (.transactionDiscarded (.cutFetch n)) s = .next { s with miso := zeros (1 + n.val) }) ∧
    (∀ n : Fin 32, exec (.transactionDiscarded (.cutStatus n)) s = .next { s with miso := zeros (1 + n.val) }))

/-! ### The host link -/

/-- R154, R155: the kind bytes 0x01 to 0x04 and the four kinds of transaction give one another back, and so do the fields of
a frame and its eight bytes, and the code bytes 0x01 to 0x11 and the seventeen requests. The bytes of a transaction make it
the command that its kind byte names, discard it for an unknown kind byte, or cut it short before the byte that is its point
of effect; without a whole byte it has not begun. Every command so made shifts out one byte for each byte clocked. -/
def Obligations.LinkBytesAreDecoded : Prop :=
  (encodeKind .request = 0x01 ∧ encodeKind .fetch = 0x02 ∧ encodeKind .status = 0x03 ∧ encodeKind .linkReset = 0x04) ∧
  (∀ (b : Byte) (k : TransactionKind), decodeKind b = some k ↔ encodeKind k = b) ∧
  (∀ b : Byte, decodeKind b = none ↔ b.toNat < 0x01 ∨ 0x04 < b.toNat) ∧
  (∀ f : Frame, decodeFrame (encodeFrame f) = f) ∧ (∀ r : RawFrame, encodeFrame (decodeFrame r) = r) ∧
  (∀ k : ReqCode, decodeReqCode (encodeReqCode k) = some k) ∧
  (∀ (b : Byte) (k : ReqCode), decodeReqCode b = some k → encodeReqCode k = b) ∧
  (∀ b : Byte, decodeReqCode b = none ↔ b.toNat < 0x01 ∨ 0x11 < b.toNat) ∧
  transactionOf [] = none ∧
  (∀ (r : RawFrame) (extra : List Byte),
    transactionOf ([0x01, r.b0, r.b1, r.b2, r.b3, r.b4, r.b5, r.b6, r.b7] ++ extra) = some (.request r extra.length)) ∧
  (∀ (bs : List Byte) (n : Fin 8), bs.length = n.val →
    transactionOf (0x01 :: bs) = some (.transactionDiscarded (.cutRequest n))) ∧
  (∀ (bs : List Byte) (extra : Nat), bs.length = 12 + extra → transactionOf (0x02 :: bs) = some (.fetch extra)) ∧
  (∀ (bs : List Byte) (n : Fin 12), bs.length = n.val →
    transactionOf (0x02 :: bs) = some (.transactionDiscarded (.cutFetch n))) ∧
  (∀ (bs : List Byte) (extra : Nat), bs.length = 32 + extra → transactionOf (0x03 :: bs) = some (.status extra)) ∧
  (∀ (bs : List Byte) (n : Fin 32), bs.length = n.val →
    transactionOf (0x03 :: bs) = some (.transactionDiscarded (.cutStatus n))) ∧
  (∀ bs : List Byte, transactionOf (0x04 :: bs) = some (.linkReset bs.length)) ∧
  (∀ (k : Byte) (bs : List Byte), k.toNat < 0x01 ∨ 0x04 < k.toNat →
    transactionOf (k :: bs) = some (.transactionDiscarded (.unknownKind k bs.length))) ∧
  (∀ (s : State) (bs : List Byte) (i : Instr), transactionOf bs = some i →
    i.wellFormed = true ∧ ∃ t : State, exec i s = .next t ∧ t.miso.length = bs.length)

/-- R155: the acceptance tests in their order, the turnaround byte, and what an accepted frame does. The bytes shifted out
are kept in `miso` (log 14). -/
def Obligations.RequestFrameIsJudged : Prop :=
  ∀ (s : State) (raw : RawFrame) (extra : Nat), s.resetLow = false →
    let f := decodeFrame raw
    let code : Byte :=
      if f.tag = 0 then 3
      else if f.tag ∈ s.link.openTags then 2
      else if 16 ≤ s.link.openTags.length ∨ 32 ≤ s.link.openTags.length + s.link.queue.length then 1
      else 0
    exec (.request raw extra) s = .next { s with
      miso := zeros 9 ++ (code :: zeros extra).take extra
      link := if code = 0 then
          { s.link with openTags := s.link.openTags ++ [f.tag], intake := s.link.intake ++ [f] }
        else s.link }

/-- R159, R160, R163: a record's twelve bytes are its tag, its code, its status, its flags and its eight result bytes, which
are four little-endian words. A FETCH shifts out and removes the oldest record and places the pending notice of lowest kind in its stead;
of an empty queue it shifts twelve bytes of 0x00 and removes nothing. -/
def Obligations.FetchTakesTheOldest : Prop :=
  (∀ r : Record, r.bytes = [r.tag, r.code, r.status, r.flags,
    r.w0.extractLsb' 0 8, r.w0.extractLsb' 8 8, r.w1.extractLsb' 0 8, r.w1.extractLsb' 8 8,
    r.w2.extractLsb' 0 8, r.w2.extractLsb' 8 8, r.w3.extractLsb' 0 8, r.w3.extractLsb' 8 8]) ∧
  (∀ (s : State) (extra : Nat), s.resetLow = false →
    (s.link.queue = [] → exec (.fetch extra) s = .next { s with miso := zeros (13 + extra) }) ∧
    (∀ r rest, s.link.queue = r :: rest → (∀ k : Fin 7, s.link.notices[k] = none) →
      exec (.fetch extra) s = .next { s with
        miso := zeros 1 ++ r.bytes ++ zeros extra
        link := { s.link with queue := rest } }) ∧
    (∀ r rest (k : Fin 7) p, s.link.queue = r :: rest → s.link.notices[k] = some p →
      (∀ j : Fin 7, j < k → s.link.notices[j] = none) →
      exec (.fetch extra) s = .next { s with
        miso := zeros 1 ++ r.bytes ++ zeros extra
        link := { s.link with
          queue := rest ++ [{ p.detail with flags := p.count }]
          notices := s.link.notices.set k none } }))

/-- R166, R27: the status block of 32 bytes, field by field; nothing but the bytes shifted out changes. Where no table
exists the counts drawn from tables are 0. That the kept tables of a FORMAT are counted in FORMATTING before the unit reset
too is the model's choice (log 9), and that the spare count of bytes 18 and 19 is two's complement is presumed (log 28). -/
def Obligations.StatusReportsTheState : Prop :=
  ∀ (s : State) (extra : Nat), s.resetLow = false → s.lawful = true →
    ∃ b : List Byte, b.length = 32 ∧ exec (.status extra) s = .next { s with miso := zeros 1 ++ b ++ zeros extra } ∧
      byteAt b 0 = s.device.byte ∧ byteAt b 1 = s.device.causeByte ∧ word32At b 2 = s.tick ∧
      byteAt b 6 = BitVec.ofNat 8 s.link.openTags.length ∧ byteAt b 7 = BitVec.ofNat 8 s.link.queue.length ∧
      (∀ k : Fin 7, (byteAt b 8).getLsbD k.val = (s.link.notices[k]).isSome) ∧ (byteAt b 8).getLsbD 7 = false ∧
      byteAt b 9 = 0 ∧
      (s.units = [] → ∀ i, 10 ≤ i → i < 20 → byteAt b i = 0) ∧
      (s.units ≠ [] →
        word16At b 10 = BitVec.ofNat 16 (s.unitsWhere fun u => u.state.isFree).length ∧
        word16At b 12 = BitVec.ofNat 16 (s.unitsWhere fun u => u.state.isDirty).length ∧
        word16At b 14 = BitVec.ofNat 16 (s.unitsWhere fun u => u.state.isWaiting).length ∧
        word16At b 16 = BitVec.ofNat 16 (s.unitsWhere fun u => u.state.isRetired).length ∧
        word16At b 18 = BitVec.ofInt 16 ((s.presentUnits : Int) - 2 -
          (s.unitsWhere fun u => u.state.isRetired).length - s.map.length)) ∧
      byteAt b 20 = BitVec.ofNat 8 s.holdsInUse ∧
      (∀ c : Fin 4, (byteAt b 21).extractLsb' (2 * c.val) 2 = moveCode s.moves[c]) ∧
      (∀ c : Fin 4, byteAt b (22 + c.val) = s.channels[c].state.byte) ∧
      word32At b 26 = s.ckpt.durableGen ∧ byteAt b 30 = slotByte s.ckpt.durableSlot ∧ byteAt b 31 = s.ckpt.phaseByte

/-- R154, R160, R166: a transaction discarded for its kind byte or cut short is counted, keeps nothing else, and has shifted
out what its kind had given so far. That a FETCH of an empty queue cut short is counted too is the model's choice (log 11).
A term that names a known kind byte as unknown is no transaction, and faults (log 21). -/
def Obligations.DiscardedTransactionsAreCounted : Prop :=
  ∀ s : State, s.resetLow = false →
    let counted (out : List Byte) : State :=
      { s with counters := s.counters.set 15 (s.counters[(15 : Fin 19)] + 1), miso := out }
    (∀ (k : Byte) (n : Nat), k ≠ 1 → k ≠ 2 → k ≠ 3 → k ≠ 4 →
      exec (.transactionDiscarded (.unknownKind k n)) s = .next (counted (zeros (1 + n)))) ∧
    (∀ n : Fin 8, exec (.transactionDiscarded (.cutRequest n)) s = .next (counted (zeros (1 + n.val)))) ∧
    (∀ n : Fin 12, exec (.transactionDiscarded (.cutFetch n)) s = .next (counted
      (zeros 1 ++ (match s.link.queue with | [] => zeros 12 | r :: _ => r.bytes).take n.val))) ∧
    (∀ n : Fin 32, exec (.transactionDiscarded (.cutStatus n)) s = .next (counted
      (zeros 1 ++ s.statusBlock.take n.val))) ∧
    (∀ (k : Byte) (n : Nat), k = 1 ∨ k = 2 ∨ k = 3 ∨ k = 4 →
      exec (.transactionDiscarded (.unknownKind k n)) s = .fault .illFormedCommand)

/-- R168, R169, R68, R111, R16, R91, R110, R134, R151: LINK RESET empties the link, drops parked BINDs, orphans the session's
long operations, removes every hold, releases every DRAINING unit, and counts. An automatic checkpoint starts at the join
that meets the six conditions: at some join of the claim, the commit-wait set then holds C_auto units. Its snapshot records
the released units FREE, before their release as after it. The arbiters then choose (R120). -/
def Obligations.LinkResetEndsTheSession : Prop :=
  ∀ (s : State) (extra : Nat), s.resetLow = false → s.lawful = true →
    let joins := s.units.filter fun p => p.2.state.isDraining && s.ckpt.recordsBound p.1
    let home := s.slotChannel s.targetSlot
    let due : Prop := s.device = .ready ∧ 0 < s.params.cAuto.toNat ∧ joins ≠ [] ∧
      s.params.cAuto.toNat ≤ s.commitWait.length + joins.length ∧ s.ckpt.flight = none ∧
      s.channels[home].state = .online ∧ s.ckpt.durableGen ≠ 0xFFFFFFFF
    ∃ t : State, exec (.linkReset extra) s = .next { t.settle none with miso := zeros (1 + extra) } ∧
      s.SameControl { t with formatRec := s.formatRec } ∧
      t.link = ⟨[], Vector.replicate 7 none, [], []⟩ ∧ t.waiters = [] ∧ t.map = s.map ∧
      (∀ i : Fin 64, t.holds[i] = ⟨(s.holds[i]).seq, none⟩) ∧
      (∀ c : Fin 4, s.moves[c] = none → t.moves[c] = none) ∧
      (∀ (c : Fin 4) (m : Move), s.moves[c] = some m → t.moves[c] = some { m with
        origin := match m.origin with | .host _ => .orphaned | o => o }) ∧
      (∀ f, s.formatRec = some f → t.formatRec = some { f with origin := .orphaned }) ∧
      (s.formatRec = none → t.formatRec = none) ∧
      (∀ f, s.ckpt.flight = some f → t.ckpt = { s.ckpt with flight := some { f with
        origin := match f.origin with | .host _ => .orphaned | o => o } }) ∧
      (due → t.ckpt = { s.ckpt with
        flight := some ⟨.erasingSlot, .auto, s.targetSlot, s.takeSnapshot s.targetSlot⟩ }) ∧
      (¬due → s.ckpt.flight = none → t.ckpt = s.ckpt) ∧
      (∀ c : Fin 4, (due ∧ c = home →
          t.channels[c].pendingImage = some ⟨.erase (s.slotIndex s.targetSlot), .checkpoint⟩) ∧
        (¬(due ∧ c = home) → t.channels[c].pendingImage = s.channels[c].pendingImage)) ∧
      (∀ c : Fin 4, t.channels[c].state = s.channels[c].state ∧ t.channels[c].count = s.channels[c].count ∧
        t.channels[c].inFlight = s.channels[c].inFlight ∧ t.channels[c].fault = s.channels[c].fault ∧
        t.channels[c].restart = (s.channels[c].restart).map fun _ => .orphaned) ∧
      (∀ g, t.unit? g = (s.unit? g).map fun u =>
        if u.state = .draining then released (s.ckpt.recordsBound g) { u with holds := 0 } else { u with holds := 0 }) ∧
      (∀ c : Fin 4, t.eraseQueues[c] = s.eraseQueues[c] ++ (s.units.filter fun p =>
        p.2.state.isDraining && !s.ckpt.recordsBound p.1 && (chanOf p.1 == c)).map (·.1)) ∧
      Counted s t (fun | .resetReleased => s.holdsInUse | .linkResets => 1 | _ => 0) ∧
      t.counter .noticesCoalesced = s.counter .noticesCoalesced

/-- R155, R156, R159, R162: the open requests number at most 16 and with the queued records at most 32, tags are distinct
and not 0, and while a kind is pending the two number 32. Every step keeps it. -/
def Obligations.LinkBoundsKept : Prop :=
  ∀ s t : State, LinkInv s → step s = .next t → LinkInv t

/-- R162, R156, R165: posting a notice, completing an open request, and the level of ATTN_N while a kind is pending. -/
def Obligations.NoticesArePlacedOrMerged : Prop :=
  (∀ (s : State) (k : NoticeKind) (r : Record), s.link.notices[k.idx] = none →
    s.link.openTags.length + s.link.queue.length < 32 →
    s.post k r = { s with link := { s.link with queue := s.link.queue ++ [{ r with flags := 1 }] } }) ∧
  (∀ (s : State) (k : NoticeKind) (r : Record), s.link.notices[k.idx] = none →
    32 ≤ s.link.openTags.length + s.link.queue.length →
    s.post k r = { s with link := { s.link with notices := s.link.notices.set k.idx (some ⟨1, r⟩) } }) ∧
  (∀ (s : State) (k : NoticeKind) (r : Record) (p : PendingNotice), s.link.notices[k.idx] = some p →
    s.post k r = { s with
      link := { s.link with
        notices := s.link.notices.set k.idx (some ⟨if p.count = 255 then 255 else p.count + 1, r⟩) }
      counters := s.counters.set 17 (s.counters[(17 : Fin 19)] + 1) }) ∧
  (∀ (s : State) (tag : Byte) (r : Record), tag ∈ s.link.openTags →
    s.complete tag r = { s with link := { s.link with
      openTags := s.link.openTags.erase tag, queue := s.link.queue ++ [r] } }) ∧
  (∀ (s : State) (k : Fin 7), LinkInv s → (s.link.notices[k]).isSome = true →
    16 ≤ s.link.queue.length ∧ s.attnN = false)

/-! ### Checks of a request -/

/-- R158, R137, R146, R171: the common checks in their order. A request that fails one changes nothing but the link: its
record carries the status of the first failure and 0 elsewhere. That a frame of no request's code is answered at whichever
request row comes (log 3), with its own code byte in the record (log 7), are the model's own choices; that a unit argument is
in range exactly when the unit table has its record is read from R25 (log 27). -/
def Obligations.CommonChecksRefuseUnchanged : Prop :=
  (∀ (s : State) (k : ReqCode) (f : Frame) (rest : List Frame), s.resetLow = false → s.link.intake = f :: rest →
    f.tag ∈ s.link.openTags → f.code.toNat < 0x01 ∨ 0x11 < f.code.toNat →
    exec (requestCommand k) s = .next (s.answered f rest (emptyRecord f 1))) ∧
  (∀ (s : State) (k : ReqCode) (f : Frame) (rest : List Frame), s.Finds k f rest →
    let badFlags : Prop := f.flags &&& 0xFE ≠ 0 ∨ (f.flag0 = true ∧ k ≠ .lookup ∧ k ≠ .bind ∧ k ≠ .format)
    let admits : Prop := match s.device with
      | .starting => k = .getParameter ∨ k = .readCounter
      | .unformatted => k = .format ∨ k = .getParameter ∨ k = .setParameter ∨ k = .readCounter ∨ k = .clearCounters ∨
          k = .restartChannel
      | .formatting => k = .getParameter ∨ k = .readCounter
      | .ready => k ≠ .format ∧ k ≠ .leaveService
      | .service => k ≠ .bind ∧ k ≠ .unbind ∧ k ≠ .move ∧ k ≠ .enterService ∧ ¬(k = .lookup ∧ f.flag0 = true)
      | .failed .noMedia => k = .getParameter ∨ k = .readCounter
      | .failed .geometry => k = .getParameter ∨ k = .readCounter ∨ k = .format
      | .failed .slot => k = .getParameter ∨ k = .readCounter ∨ k = .format
    let sel := f.selector.toNat
    let kept : Int := if s.device = .service then s.retiredSet.length else 0
    let outOfRange : Prop := match k with
      | .lookup => s.map.length ≤ f.argA.toNat
      | .bind => s.map.length ≤ f.argA.toNat
      | .unbind => s.map.length ≤ f.argA.toNat
      | .move => s.map.length ≤ f.argA.toNat
      | .retire => s.unit? f.argA.toNat = none
      | .queryUnit => s.unit? f.argA.toNat = none
      | .restartChannel => ∀ c : Fin 4, sel = c.val → s.channels[c].state = .absent
      | .format => f.argB.toNat < 8 ∨ 512 < f.argB.toNat ∨ f.argA.toNat < 1 ∨ 4086 < f.argA.toNat ∨
          (s.presentUnits : Int) - 2 - kept - f.argB.toNat < f.argA.toNat
      | .setParameter => (sel = 1 ∧ f.argA.toNat < 1) ∨ (sel = 2 ∧ (f.argA.toNat < 100 ∨ 65000 < f.argA.toNat)) ∨
          (sel = 3 ∧ 4096 < f.argA.toNat) ∨ (sel = 4 ∧ 1024 < f.argA.toNat) ∨
          (sel = 5 ∧ (f.argA.toNat < 8 ∨ 512 < f.argA.toNat))
      | _ => False
    let unknownId : Prop := match k with
      | .getParameter => sel < 1 ∨ 5 < sel
      | .setParameter => sel < 1 ∨ 5 < sel
      | .readCounter => sel < 1 ∨ 19 < sel
      | _ => False
    (badFlags → exec (requestCommand k) s = .next (s.answered f rest (emptyRecord f 1))) ∧
    (¬badFlags → ¬admits → exec (requestCommand k) s = .next (s.answered f rest (emptyRecord f 3))) ∧
    (¬badFlags → admits → unknownId → exec (requestCommand k) s = .next (s.answered f rest (emptyRecord f 1))) ∧
    (¬badFlags → admits → outOfRange → exec (requestCommand k) s = .next (s.answered f rest (emptyRecord f 2))) ∧
    (¬badFlags → admits → ¬unknownId → ¬outOfRange → s.Passes k f rest))

/-- R10, R11, R21, R75, R57, R47, R96, R131, R146, R152: each request's own checks in their order. A request refused at one
of them changes nothing but the link. -/
def Obligations.OwnChecksRefuseUnchanged : Prop :=
  ∀ (s : State) (f : Frame) (rest : List Frame),
    let refuses (i : Instr) (status : Byte) : Prop := exec i s = .next (s.answered f rest (emptyRecord f status))
    let n := f.argA.toNat
    (∀ r, s.Passes .lookup f rest → f.flag0 = true → s.map[n]? = some r →
      (r.unit = none → refuses .lookup 4) ∧
      (∀ g, r.unit = some g → s.channels[chanOf g].state ≠ .online → refuses .lookup 10) ∧
      (∀ g, r.unit = some g → s.channels[chanOf g].state = .online → (∀ i : Fin 64, (s.holds[i]).entry ≠ none) →
        refuses .lookup 6)) ∧
    (s.Passes .bind f rest → f.flag0 = true → (∀ i : Fin 64, (s.holds[i]).entry ≠ none) → refuses .bind 6) ∧
    (∀ r, s.Passes .unbind f rest → s.map[n]? = some r → r.unit = none → refuses .unbind 4) ∧
    (∀ r, s.Passes .move f rest → s.map[n]? = some r →
      (r.unit = none → refuses .move 4) ∧
      (∀ g u, r.unit = some g → s.unit? g = some u →
        let busy : Prop := r.move ≠ none ∨ s.moves[chanOf g] ≠ none
        (busy → refuses .move 9) ∧
        (¬busy → s.channels[chanOf g].state ≠ .online → refuses .move 10) ∧
        (¬busy → s.channels[chanOf g].state = .online → 0 < u.holds → refuses .move 8) ∧
        (¬busy → s.channels[chanOf g].state = .online → u.holds = 0 → s.keysLawful = true →
          (∀ x v, ¬s.FreeUnit (chanOf g) x v) → refuses .move 5))) ∧
    (s.Passes .release f rest → s.currentHandle f.argA = none → refuses .release 7) ∧
    (s.Passes .renew f rest → s.currentHandle f.argA = none → refuses .renew 7) ∧
    (∀ u c, s.Passes .retire f rest → s.unit? n = some u → u.state = .retired c → refuses .retire 11) ∧
    (s.Passes .checkpoint f rest →
      let down : Prop := s.channels[s.slotChannel s.targetSlot].state ≠ .online
      (s.ckpt.flight ≠ none → refuses .checkpoint 9) ∧
      (s.ckpt.flight = none → down → refuses .checkpoint 10) ∧
      (s.ckpt.flight = none → ¬down → s.ckpt.durableGen = 0xFFFFFFFF →
        exec .checkpoint s = .next (s.answered f rest
          ⟨f.tag, 9, 14, 0, 0xFFFF, 0xFFFF, join16 (slotByte (some s.targetSlot)) 4, 0⟩))) ∧
    (∀ c : Fin 4, s.Passes .restartChannel f rest → f.selector.toNat = c.val → s.channels[c].state ≠ .faulted →
      refuses .restartChannel 3) ∧
    (s.Passes .enterService f rest →
      ((∃ i : Fin 64, (s.holds[i]).entry ≠ none) → refuses .enterService 8) ∧
      ((∀ i : Fin 64, (s.holds[i]).entry = none) → (∃ c : Fin 4, s.moves[c] ≠ none) ∨ s.waiters ≠ [] →
        refuses .enterService 9)) ∧
    (s.Passes .format f rest → s.ckpt.flight ≠ none → refuses .format 9)

/-! ### The map -/

/-- R8, R9, R50, R161: a LOOKUP without HOLD and a QUERY_UNIT report the record and the unit as they stand and change
nothing else, but for the lookups counter (R177). -/
def Obligations.PlainLookupAndQueryReport : Prop :=
  ∀ (s : State) (f : Frame) (rest : List Frame),
    (∀ r, s.Passes .lookup f rest → f.flag0 = false → s.map[f.argA.toNat]? = some r →
      (r.unit = none →
        exec .lookup s = .next { s.answered f rest ⟨f.tag, 1, 0, 0, 0xFFFF, r.generation, 0, 0⟩ with
          counters := s.counters.set 2 (s.counters[(2 : Fin 19)] + 1) }) ∧
      (∀ g u, r.unit = some g → s.unit? g = some u →
        let down := decide (s.channels[chanOf g].state = .faulted ∨ s.channels[chanOf g].state = .restarting)
        let flags : Byte :=
          0#4 ++ BitVec.ofBool down ++ BitVec.ofBool u.retirePending ++ BitVec.ofBool r.move.isSome ++ 1#1
        exec .lookup s = .next { s.answered f rest ⟨f.tag, 1, 0, flags, BitVec.ofNat 16 g, r.generation, 0, 0⟩ with
          counters := s.counters.set 2 (s.counters[(2 : Fin 19)] + 1) })) ∧
    (∀ u, s.Passes .queryUnit f rest → s.unit? f.argA.toNat = some u →
      exec .queryUnit s = .next (s.answered f rest
        ⟨f.tag, 8, 0, 0#5 ++ BitVec.ofBool u.retirePending ++ 0#2, u.wear,
          match u.state with | .bound n => BitVec.ofNat 16 n | .target n => BitVec.ofNat 16 n | _ => 0xFFFF,
          join16 u.state.byte (match u.state with | .retired c => c.byte | _ => 0),
          join16 (BitVec.ofNat 8 u.holds) s.channels[chanOf f.argA.toNat].state.byte⟩))

/-- R85, R86, R89, R90: what an abandonment by a BIND, an UNBIND or a hold does to a move, by its phase, and to whom a
move's outcome is reported. -/
def Obligations.AbandonmentFollowsThePhase : Prop :=
  (∀ (s : State) (n : Nat) (r : LogicalRec) (after : Option Nat × Word16), s.logical? n = some r →
    (r.move = none → s.abandonMove n after = (s, [])) ∧
    (∀ c m, r.move = some c → s.moves[c] = some m →
      (m.phase = .assigned → s.abandonMove n after =
        (({ s with
            map := s.map.set n { r with move := none }
            units := modifyIn s.units m.target fun u => { u with state := .free }
            moves := s.moves.set c none
            counters := s.counters.set 9 (s.counters[(9 : Fin 19)] + 1) } : State).reportMove c m .moveAbandoned .none
          after, [c])) ∧
      (m.phase = .copying → s.abandonMove n after =
        ({ s with
            map := s.map.set n { r with move := none }
            moves := s.moves.set c (some { m with phase := .abandoning }) }, [])))) ∧
  (∀ (s : State) (c : Fin 4) (m : Move) (st : Status) (why : MoveReason) (after : Option Nat × Word16),
    (∀ t, m.origin = .host t →
      s.reportMove c m st why after = s.complete t (moveRecord t st c m why after s.tick)) ∧
    (m.origin = .orphaned → s.reportMove c m st why after = s) ∧
    (m.origin = .leveling ∨ m.origin = .evacuation → st = .ok → s.reportMove c m st why after = s) ∧
    (m.origin = .leveling ∨ m.origin = .evacuation → st ≠ .ok → s.reportMove c m st why after =
      s.post .moveResult ⟨0, 6, st.byte, 0, BitVec.ofNat 16 m.logical, BitVec.ofNat 16 m.source,
        BitVec.ofNat 16 m.target, join16 (if m.origin = .leveling then 1 else 2) (why.code.setWidth 8)⟩))

/-- R10, R58, R85, R86: a LOOKUP with HOLD that passes its checks abandons the logical's move, takes a hold on its unit in
the lowest free slot and answers with the handle. Waiters are then offered a returned target (R17), the monitor looks at the
channel whose move left the list (R79), and the arbiters choose (R120). Its record stands behind that of the move it abandons (R22);
that it stands before those of the BINDs that the target wakes is the model's reading (log 8). -/
def Obligations.LookupWithHoldTakesAHold : Prop :=
  ∀ (s : State) (f : Frame) (rest : List Frame) (r : LogicalRec) (g : Nat) (u : UnitRec) (i : Fin 64),
    s.Passes .lookup f rest → f.flag0 = true → s.lawful = true → TagInv s → s.map[f.argA.toNat]? = some r →
    r.unit = some g → s.unit? g = some u → s.channels[chanOf g].state = .online →
    (s.holds[i]).entry = none → (∀ j : Fin 64, j < i → (s.holds[j]).entry ≠ none) →
    ∃ (t : State) (left : List (Fin 4)),
      let q : Byte := if (s.holds[i]).seq = 255 then 1 else (s.holds[i]).seq + 1
      exec .lookup s = .next ((t.afterAbandon left).settle none) ∧ s.SameControl t ∧
      PlacedLast s t f.tag ⟨f.tag, 1, 0, 0#5 ++ BitVec.ofBool u.retirePending ++ 0#1 ++ 1#1, BitVec.ofNat 16 g,
        r.generation, BitVec.ofNat 16 (i.val * 256 + q.toNat), 0⟩ ∧
      t.link.intake = rest ∧ t.waiters = s.waiters ∧ t.map = s.map.set f.argA.toNat { r with move := none } ∧
      t.holds = s.holds.set i ⟨q, some ⟨q, g, f.argA.toNat, r.generation, s.tick, s.params.tHold⟩⟩ ∧
      t.unit? g = some { u with holds := u.holds + 1 } ∧ MoveAbandoned s t r left ∧
      (∀ x, Untouched s r [g] x → t.unit? x = s.unit? x) ∧
      t.eraseQueues = s.eraseQueues ∧ t.ckpt = s.ckpt ∧ t.channels = s.channels ∧
      Counted s t (fun | .lookups => 1 | .holdsTaken => 1 | .movesAbandoned => left.length | _ => 0)

/-- R12, R13, R14, R29, R58: a BIND that finds a unit takes effect: the least-worn FREE unit of an ONLINE channel becomes
BOUND, the logical's move is abandoned, its old unit goes through unit release, the generation rises by one, and the hold
asked for is taken on the new unit. What follows it is as for a LOOKUP with HOLD. That its record stands before those of the
BINDs that a returned target wakes (log 8), and that an automatic checkpoint's snapshot is taken after the binding (log 10),
are the model's reading. -/
def Obligations.BindTakesEffect : Prop :=
  ∀ (s : State) (f : Frame) (rest : List Frame) (r : LogicalRec) (g : Nat) (u : UnitRec),
    s.Passes .bind f rest → s.lawful = true → TagInv s → (f.flag0 = true → s.holdTableFull = false) →
    s.firstOnlineFree = some g → s.unit? g = some u → s.map[f.argA.toNat]? = some r →
    ∃ (t : State) (left : List (Fin 4)), exec .bind s = .next ((t.afterAbandon left).settle none) ∧
      t.link.intake = rest ∧ BoundBy s t f.tag f.argA.toNat f.flag0 r g u left

/-- R15: a BIND that finds no unit parks at the tail of the list while a park condition holds, and otherwise completes
NO_FREE_UNIT; either way it changes nothing else. -/
def Obligations.BindParksOrGivesUp : Prop :=
  ∀ (s : State) (f : Frame) (rest : List Frame), s.Passes .bind f rest →
    (f.flag0 = true → s.holdTableFull = false) →
    (∀ g u, s.unit? g = some u → u.state = .free → s.channels[chanOf g].state ≠ .online) → s.lawful = true →
    let parks : Prop :=
      (∃ g u, s.unit? g = some u ∧ u.state = .erasing) ∨
      (∃ c : Fin 4, (s.channels[c].state = .online ∨ s.channels[c].state = .restarting) ∧ s.eraseQueues[c] ≠ []) ∨
      ((∃ g u, s.unit? g = some u ∧ u.state = .waiting) ∧ s.ckpt.flight ≠ none) ∨
      (∃ g u, s.unit? g = some u ∧ u.state = .free ∧ s.channels[chanOf g].state = .restarting)
    (parks → exec .bind s =
      .next { s.taken rest with waiters := s.waiters ++ [⟨f.tag, f.argA.toNat, f.flag0⟩] }) ∧
    (¬parks → exec .bind s = .next (s.answered f rest (emptyRecord f 5)))

/-- R21, R29, R85, R86: an UNBIND abandons the logical's move, lets its unit go through unit release, and raises the
generation by one. What follows it is as for a LOOKUP with HOLD. That its record stands before those of the woken BINDs
(log 8), and that an automatic checkpoint's snapshot is taken after the generation has risen (log 10), are the model's
reading. -/
def Obligations.UnbindLetsTheUnitGo : Prop :=
  ∀ (s : State) (f : Frame) (rest : List Frame) (r : LogicalRec) (g : Nat) (u : UnitRec),
    s.Passes .unbind f rest → s.lawful = true → TagInv s → s.map[f.argA.toNat]? = some r → r.unit = some g →
    s.unit? g = some u →
    ∃ (t : State) (left : List (Fin 4)),
      exec .unbind s = .next ((t.afterAbandon left).settle none) ∧ s.SameControl t ∧
      PlacedLast s t f.tag ⟨f.tag, 3, 0, 0, 0xFFFF, r.generation + 1, 0, 0⟩ ∧ t.link.intake = rest ∧
      t.waiters = s.waiters ∧ t.holds = s.holds ∧
      t.map = s.map.set f.argA.toNat ⟨none, r.generation + 1, none⟩ ∧
      t.unit? g = some (released (s.ckpt.recordsBound g) u) ∧ JoinsTail s t g ∧ AutoCheckpoint s t g ∧
      MoveAbandoned s t r left ∧ (∀ x, Untouched s r [g] x → t.unit? x = s.unit? x) ∧
      Counted s t (fun
        | .unbinds => 1 | .movesAbandoned => left.length
        | .retirements => if u.retirePending = true then 1 else 0 | _ => 0)

/-- R29, R44: unit release gives a unit the first outcome whose condition holds, touches no other unit, and puts a DIRTY
unit at the tail of its channel's erase queue; only the retirement posts notices and counts. -/
def Obligations.UnitReleaseTakesTheFirstOutcome : Prop :=
  ∀ (s : State) (g : Nat) (u : UnitRec), s.keysLawful = true → s.unit? g = some u →
    (∀ c, u.state ≠ .retired c) → u.state ≠ .dirty →
    let t := s.releaseUnit g
    t.unit? g = some (released (s.ckpt.recordsBound g) u) ∧ (∀ x, x ≠ g → t.unit? x = s.unit? x) ∧
    JoinsTail s t g ∧ t.map = s.map ∧ t.holds = s.holds ∧ t.moves = s.moves ∧ t.ckpt = s.ckpt ∧
    t.channels = s.channels ∧ t.waiters = s.waiters ∧ s.SameControl t ∧
    (u.retirePending = false → t.link = s.link ∧ t.counters = s.counters) ∧
    (u.retirePending = true → t.link = s.link.retirement g .host t.spareCount s.params.sMin ∧
      t.counter .retirements = s.counter .retirements + 1)

/-- R17, R18, R19, R12, R13: a service of the bind-waiter list takes entries from its head and stops only when the list is
empty or no FREE unit stands on an ONLINE channel. With a usable FREE unit, the oldest entry takes effect as a BIND does,
with the unit R12 selects then; an entry with HOLD that finds the hold table full completes HOLD_TABLE_FULL and changes
nothing else; and the service goes on with the next entry. A re-examination empties the list exactly when no park condition
holds and no usable FREE unit is left. That an automatic checkpoint's snapshot is taken after the binding is the model's
reading (log 10). -/
def Obligations.WaitersAreServedOldestFirst : Prop :=
  (∀ s : State, (s.serveWaiters).1.waiters <:+ s.waiters ∧
    ((s.serveWaiters).1.waiters = [] ∨ (s.serveWaiters).1.firstOnlineFree = none)) ∧
  (∀ s : State, s.waiters ≠ [] → s.firstOnlineFree ≠ none →
    (s.serveWaiters).1.waiters.length < s.waiters.length) ∧
  (∀ (s : State) (w : Waiter) (ws : List Waiter) (g : Nat) (u : UnitRec) (r : LogicalRec), s.lawful = true → TagInv s →
    s.waiters = w :: ws → s.firstOnlineFree = some g → s.unit? g = some u → s.map[w.logical]? = some r →
    let full : Prop := w.hold = true ∧ ∀ i : Fin 64, (s.holds[i]).entry ≠ none
    (full → s.serveWaiters = State.serveWaiters { s with
      waiters := ws
      link := { s.link with
        openTags := s.link.openTags.erase w.tag
        queue := s.link.queue ++ [⟨w.tag, 2, 6, 0, 0, 0, 0, 0⟩] } }) ∧
    (¬full → ∃ (t : State) (left : List (Fin 4)),
      s.serveWaiters = (t.serveWaiters.1, left ++ t.serveWaiters.2) ∧ t.link.intake = s.link.intake ∧
      BoundBy { s with waiters := ws } t w.tag w.logical w.hold r g u left)) ∧
  (∀ s : State, (s.parkCondition = true ∨ s.firstOnlineFree ≠ none → s.reexamine = s) ∧
    (s.parkCondition = false → s.firstOnlineFree = none → s.reexamine.waiters = [] ∧
      s.reexamine.units = s.units ∧ s.reexamine.map = s.map ∧ s.reexamine.holds = s.holds ∧
      (TagInv s → s.reexamine.link.queue = s.link.queue ++ s.waiters.map fun w => ⟨w.tag, 2, 5, 0, 0, 0, 0, 0⟩)))

/-- R17: as long as the bind-waiter list holds an entry, no FREE unit on an ONLINE channel is left idle. Every step keeps
it in a lawful state in which the probe is over once start-up is (KeysInv, kept by TablesStayLawful). -/
def Obligations.WaitersLeaveNoUsableUnitIdle : Prop :=
  ∀ s t : State, s.lawful = true → KeysInv s → (s.waiters ≠ [] → s.firstOnlineFree = none) → step s = .next t →
    (t.waiters ≠ [] → t.firstOnlineFree = none)

/-! ### Holds -/

/-- R63, R60, R64, R31: the expiry of a hold frees its slot, takes one from its unit's count, releases a DRAINING unit
whose count has reached 0, counts and posts HOLD_EXPIRED. -/
def Obligations.HoldExpiryRemovesTheEntry : Prop :=
  ∀ (s : State) (i : Fin 64) (e : HoldEntry), s.resetLow = false → s.lawful = true →
    (s.holds[i]).entry = some e → e.lifetime.toNat ≤ (s.tick - e.start).toNat →
    ∃ t : State, exec (.holdExpiry i) s = .next (t.settle none) ∧ s.SameControl t ∧
      t.holds = s.holds.set i ⟨(s.holds[i]).seq, none⟩ ∧ HoldGone s t e.unit ∧ AutoCheckpoint s t e.unit ∧
      t.map = s.map ∧ t.waiters = s.waiters ∧ t.moves = s.moves ∧
      t.link = s.link.post .holdExpired ⟨0, 2, 0, 0, BitVec.ofNat 16 (i.val * 256 + e.sequence.toNat),
        BitVec.ofNat 16 e.unit, BitVec.ofNat 16 e.logical, e.generation⟩ ∧
      Counted s t (fun | .holdsExpired => 1 | _ => 0)

/-- R61, R60, R57: RELEASE of a current handle removes its entry and reports the unit as the removal leaves it. -/
def Obligations.ReleaseEndsTheHold : Prop :=
  ∀ (s : State) (f : Frame) (rest : List Frame) (i : Fin 64) (e : HoldEntry), s.Passes .release f rest →
    s.lawful = true → (s.holds[i]).entry = some e → f.argA = BitVec.ofNat 16 (i.val * 256 + e.sequence.toNat) →
    ∃ (t : State) (u : UnitRec), exec .release s = .next (t.settle none) ∧ s.SameControl t ∧
      t.holds = s.holds.set i ⟨(s.holds[i]).seq, none⟩ ∧ HoldGone s t e.unit ∧ AutoCheckpoint s t e.unit ∧
      t.map = s.map ∧ t.waiters = s.waiters ∧ t.moves = s.moves ∧ t.counters = s.counters ∧
      t.unit? e.unit = some u ∧
      t.link = (s.answered f rest ⟨f.tag, 5, 0, 0, BitVec.ofNat 16 e.unit, e.generation, BitVec.ofNat 16 e.logical,
        join16 u.state.byte (BitVec.ofNat 8 u.holds)⟩).link

/-- R62: RENEW, whole: its refusals, its effect on a current handle and the new expiry, and STALE_HOLD. -/
def Obligations.RenewRestartsTheLifetime : Prop :=
  ∀ (s : State) (f : Frame) (rest : List Frame), s.Finds .renew f rest →
    (f.flags ≠ 0 → exec .renew s = .next (s.answered f rest (emptyRecord f 1))) ∧
    (f.flags = 0 → s.device ≠ .ready → s.device ≠ .service →
      exec .renew s = .next (s.answered f rest (emptyRecord f 3))) ∧
    (f.flags = 0 → s.device = .ready ∨ s.device = .service →
      (∀ (i : Fin 64) (e : HoldEntry), (s.holds[i]).entry = some e →
        f.argA = BitVec.ofNat 16 (i.val * 256 + e.sequence.toNat) →
        exec .renew s = .next { s.answered f rest ⟨f.tag, 6, 0, 0, BitVec.ofNat 16 e.unit, s.tick.extractLsb' 0 16,
            s.tick.extractLsb' 16 16, s.params.tHold⟩ with
          holds := s.holds.set i
            ⟨(s.holds[i]).seq, some { e with start := s.tick, lifetime := s.params.tHold }⟩ }) ∧
      ((∀ (i : Fin 64) (e : HoldEntry), (s.holds[i]).entry = some e →
          f.argA ≠ BitVec.ofNat 16 (i.val * 256 + e.sequence.toNat)) →
        exec .renew s = .next (s.answered f rest (emptyRecord f 7)))) ∧
    (∀ n, n < 2 ^ 32 →
      (deadlinePassed (s.tick + BitVec.ofNat 32 n) s.tick s.params.tHold.toNat = true ↔ s.params.tHold.toNat ≤ n))

/-- R57: a handle is slot × 256 + sequence; it is current exactly when that slot is occupied by an entry of that sequence;
a handle whose low byte is 0, or whose high byte is 64 or more, is never current. -/
def Obligations.HandleNamesItsEntry : Prop :=
  (∀ (i : Fin 64) (q : Byte), (handleOf i q).toNat = i.val * 256 + q.toNat) ∧
  (∀ (s : State) (h : Word16) (i : Fin 64) (e : HoldEntry), s.currentHandle h = some (i, e) ↔
    (s.holds[i]).entry = some e ∧ h.toNat = i.val * 256 + e.sequence.toNat) ∧
  (∀ (s : State) (h : Word16), 64 ≤ h.toNat / 256 → s.currentHandle h = none) ∧
  (∀ (s : State) (h : Word16), HoldInv s → h.toNat % 256 = 0 → s.currentHandle h = none)

/-- R55, R57, R58: the entry of an occupied slot carries the slot's sequence counter, and no entry has sequence 0. Every
step keeps it. -/
def Obligations.HoldSequencesKept : Prop :=
  ∀ s t : State, HoldInv s → step s = .next t → HoldInv t

/-! ### Units -/

/-- R32, R34: the free pool holds the FREE units in ascending wear, ties in ascending number; the selections of BIND, of a
move and of leveling are the ones that R34 gives. -/
def Obligations.FreePoolKeepsWearOrder : Prop :=
  ∀ s : State, s.keysLawful = true →
    s.freePool.Perm (s.units.filter fun p => p.2.state.isFree) ∧
    s.freePool.Pairwise (fun p q => p.2.wear.toNat < q.2.wear.toNat ∨ (p.2.wear = q.2.wear ∧ p.1 < q.1)) ∧
    (∀ g, s.firstOnlineFree = some g → ∃ u, s.unit? g = some u ∧ u.state = .free ∧
      s.channels[chanOf g].state = .online ∧
      ∀ x v, s.unit? x = some v → v.state = .free → s.channels[chanOf x].state = .online →
        u.wear.toNat < v.wear.toNat ∨ (u.wear = v.wear ∧ g ≤ x)) ∧
    (s.firstOnlineFree = none → ∀ x v, s.unit? x = some v → v.state = .free →
      s.channels[chanOf x].state ≠ .online) ∧
    (∀ c g, s.leastWornFree c = some g ↔ s.LeastWornFree c g) ∧
    (∀ c g u, s.mostWornFree c = some (g, u) → s.FreeUnit c g u ∧
      ∀ x v, s.FreeUnit c x v → v.wear.toNat < u.wear.toNat ∨ (u.wear = v.wear ∧ g ≤ x))

/-- R44, R51, R52: a retirement clears retire_pending and the owner, keeps wear and holds, lowers the spare count by one,
counts, posts UNIT_RETIRED, and posts LOW_SPARES when the new spare count is below S_min. -/
def Obligations.RetirementIsCountedAndReported : Prop :=
  ∀ (s : State) (g : Nat) (cause : Cause) (u : UnitRec), s.keysLawful = true → s.unit? g = some u →
    (∀ c, u.state ≠ .retired c) →
    let t := s.retireUnit g cause
    t.unit? g = some ⟨.retired cause, u.wear, u.holds, false⟩ ∧ (∀ x, x ≠ g → t.unit? x = s.unit? x) ∧
    t.spareCount = s.spareCount - 1 ∧ Counted s t (fun | .retirements => 1 | _ => 0) ∧
    t.link = s.link.retirement g cause (s.spareCount - 1) s.params.sMin

/-- R47, R48, R19: a RETIRE acts on the unit by its state and reports the unit as the request leaves it. A RETIRE of a FREE,
DIRTY or WAITING unit re-examines the bind-waiter list first: its entries stay while one can still be served, and otherwise
complete NO_FREE_UNIT, oldest first, behind the notices of the retirement and before the RETIRE's own record. -/
def Obligations.RetireActsByState : Prop :=
  ∀ (s : State) (f : Frame) (rest : List Frame) (g : Nat) (u : UnitRec), s.Passes .retire f rest → s.lawful = true →
    TagInv s → f.argA.toNat = g → s.unit? g = some u →
    let report (state flags : Byte) : Record := ⟨f.tag, 7, 0, flags, f.argA, 0, join16 state 0, 0⟩
    let marked : State := { s with units := modifyIn s.units g fun u => { u with retirePending := true } }
    (u.state = .free ∨ u.state = .dirty ∨ u.state = .waiting →
      ∃ t : State, exec .retire s = .next t ∧ s.SameControl t ∧
        t.unit? g = some ⟨.retired .host, u.wear, u.holds, false⟩ ∧ (∀ x, x ≠ g → t.unit? x = s.unit? x) ∧
        (∀ c : Fin 4, t.eraseQueues[c] = (s.eraseQueues[c]).erase g) ∧
        PlacedLast s t f.tag (report 7 0) ∧ t.link.intake = rest ∧
        (∃ gone : List Waiter,
          t.link.queue = (s.link.retirement g .host (s.spareCount - 1) s.params.sMin).queue ++
            (gone.map fun w => ⟨w.tag, 2, 5, 0, 0, 0, 0, 0⟩) ++ [report 7 0] ∧
          ((gone = [] ∧ t.waiters = s.waiters ∧
              (s.waiters = [] ∨ t.parkCondition = true ∨ t.firstOnlineFree ≠ none)) ∨
            (gone = s.waiters ∧ t.waiters = [] ∧ t.parkCondition = false ∧ t.firstOnlineFree = none))) ∧
        t.map = s.map ∧ t.holds = s.holds ∧ t.moves = s.moves ∧ t.ckpt = s.ckpt ∧ t.channels = s.channels ∧
        Counted s t (fun | .retirements => 1 | _ => 0)) ∧
    (u.state = .draining →
      ∃ t : State, exec .retire s = .next t ∧ s.SameControl t ∧
        t.unit? g = some ⟨.retired .host, u.wear, u.holds, false⟩ ∧ (∀ x, x ≠ g → t.unit? x = s.unit? x) ∧
        PlacedLast s t f.tag (report 7 0) ∧ t.link.intake = rest ∧ t.eraseQueues = s.eraseQueues ∧
        t.waiters = s.waiters ∧ t.map = s.map ∧ t.holds = s.holds ∧ t.moves = s.moves ∧ t.ckpt = s.ckpt ∧
        t.channels = s.channels ∧ Counted s t (fun | .retirements => 1 | _ => 0)) ∧
    (u.state = .erasing → exec .retire s = .next (marked.answered f rest (report 2 4))) ∧
    (∀ n, u.state = .bound n → u.retirePending = true →
      exec .retire s = .next (s.answered f rest (report 3 4))) ∧
    (∀ n, u.state = .bound n → u.retirePending = false →
      exec .retire s = .next (((marked.answered f rest (report 3 4)).evaluate (chanOf g)).settle none)) ∧
    (∀ n m, u.state = .target n → s.moves[chanOf g] = some m →
      (m.phase = .abandoning → exec .retire s = .next (marked.answered f rest (report 4 4))) ∧
      (m.phase = .copying → exec .retire s = .next ({ marked with
        map := s.map.modify n fun r => { r with move := none }
        moves := s.moves.set (chanOf g) (some { m with phase := .abandoning }) } |>.answered f rest (report 4 4))) ∧
      (m.phase = .assigned →
        ∃ t : State, exec .retire s = .next ((t.evaluate (chanOf g)).settle none) ∧ s.SameControl t ∧
          t.unit? g = some ⟨.retired .host, u.wear, u.holds, false⟩ ∧ (∀ x, x ≠ g → t.unit? x = s.unit? x) ∧
          t.map = (s.map.modify n fun r => { r with move := none }) ∧ t.moves = s.moves.set (chanOf g) none ∧
          PlacedLast s t f.tag (report 7 0) ∧ t.link.intake = rest ∧ t.eraseQueues = s.eraseQueues ∧
          t.waiters = s.waiters ∧ t.holds = s.holds ∧ t.ckpt = s.ckpt ∧ t.channels = s.channels ∧
          Counted s t (fun | .retirements => 1 | .movesAbandoned => 1 | _ => 0)))

/-- R38, R39, R41: a DONE reply to the erase of a usable unit raises its wear, saturating, and makes it RETIRED(HOST),
RETIRED(WORN) or FREE; a FAIL(ERASE) reply makes it RETIRED(ERASE_FAIL) with its wear unchanged. The waiters are then
served and re-examined, the monitor looks at the channel, and the arbiter chooses. -/
def Obligations.EraseRepliesSettleTheUnit : Prop :=
  ∀ (s : State) (c : Fin 4) (op : Op) (i g : Nat) (u : UnitRec), s.resetLow = false → s.lawful = true →
    s.channels[c].inFlight = some op → op.owner = .unitManager → op.kind = .erase i → globalOf c i = g →
    s.unit? g = some u →
    let wear : Word16 := if u.wear = 65535 then 65535 else u.wear + 1
    let frame (t : State) : Prop := s.SameControl t ∧ t.channels = s.channels.set c { s.channels[c] with inFlight := none } ∧
      (∀ x, x ≠ g → t.unit? x = s.unit? x) ∧ t.map = s.map ∧ t.waiters = s.waiters ∧ t.holds = s.holds ∧
      t.moves = s.moves ∧ t.eraseQueues = s.eraseQueues ∧ t.ckpt = s.ckpt
    (∃ t : State, exec (.eraseDone c) s = .next (((t.serveAndReexamine).evaluate c).settle (some c)) ∧ frame t ∧
      (u.retirePending = true → t.unit? g = some ⟨.retired .host, wear, u.holds, false⟩ ∧
        t.link = s.link.retirement g .host t.spareCount s.params.sMin ∧
        Counted s t (fun | .erasesCompleted => 1 | .retirements => 1 | _ => 0)) ∧
      (u.retirePending = false → s.params.eMax.toNat ≤ wear.toNat →
        t.unit? g = some ⟨.retired .worn, wear, u.holds, false⟩ ∧
        t.link = s.link.retirement g .worn t.spareCount s.params.sMin ∧
        Counted s t (fun | .erasesCompleted => 1 | .retirements => 1 | _ => 0)) ∧
      (u.retirePending = false → wear.toNat < s.params.eMax.toNat →
        t.unit? g = some ⟨.free, wear, u.holds, false⟩ ∧ t.link = s.link ∧
        t.counters = s.counters.set 6 (s.counters[(6 : Fin 19)] + 1))) ∧
    (∃ t : State, exec (.eraseFail c) s = .next (((t.serveAndReexamine).evaluate c).settle (some c)) ∧ frame t ∧
      t.unit? g = some ⟨.retired .eraseFail, u.wear, u.holds, false⟩ ∧
      t.link = s.link.retirement g .eraseFail t.spareCount s.params.sMin ∧
      Counted s t (fun | .eraseFailures => 1 | .retirements => 1 | _ => 0))

/-- R46: a unit's wear changes only by one at a DONE reply to its own erase in flight, saturating at 65535, at the unit
reset of a FORMAT, and while start-up loads the tables; a hardware reset discards the tables. -/
def Obligations.WearOnlyRises : Prop :=
  ∀ (i : Instr) (s t : State) (g : Nat) (u v : UnitRec), s.lawful = true → exec i s = .next t →
    s.startup.stage = .ended → i ≠ .formatUnitReset → s.unit? g = some u → t.unit? g = some v →
    v.wear = u.wear ∨
    (v.wear = (if u.wear = 65535 then 65535 else u.wear + 1) ∧
      ∃ (c : Fin 4) (op : Op) (j : Nat), replyOf i = some (c, .done) ∧ s.channels[c].inFlight = some op ∧
        op.owner = .unitManager ∧ op.kind = .erase j ∧ globalOf c j = g)

/-- R3, R5, R25, R26, R30, R36, R59, R69, R71, R72, R116, R119: the law of the tables; that the unit table, while it exists,
holds exactly the usable units of the geometry; and that no unit which the durable BOUND set, the unconfirmed BOUND set or the
snapshot of a checkpoint in flight holds as BOUND is FREE, DIRTY, ERASING or TARGET. Every step keeps each. -/
def Obligations.TablesStayLawful : Prop :=
  ∀ s t : State, s.lawful = true → DeviceInv s → CkptInv s → step s = .next t →
    (HoldInv s → t.lawful = true) ∧ (KeysInv s → KeysInv t) ∧ (RecordedInv s → RecordedInv t)

/-! ### Relocation -/

/-- R74, R75: a MOVE that passes its checks starts a move to the least-worn FREE unit of the channel and stays open; the
arbiters then choose. -/
def Obligations.HostMoveStarts : Prop :=
  ∀ (s : State) (f : Frame) (rest : List Frame) (r : LogicalRec) (g t : Nat) (u : UnitRec), s.Passes .move f rest →
    s.keysLawful = true → s.map[f.argA.toNat]? = some r → r.unit = some g → r.move = none →
    s.moves[chanOf g] = none → s.channels[chanOf g].state = .online → s.unit? g = some u → u.holds = 0 →
    s.LeastWornFree (chanOf g) t →
    exec .move s = .next (({ s.taken rest with
      units := modifyIn s.units t fun v => ⟨.target f.argA.toNat, v.wear, 0, false⟩
      moves := s.moves.set (chanOf g) (some ⟨f.argA.toNat, g, t, .host f.tag, .assigned, s.tick⟩)
      map := s.map.set f.argA.toNat { r with move := some (chanOf g) } } : State).settle none)

/-- R76, R77, R78: an evaluation of the leveling monitor starts nothing unless the device is READY, the channel ONLINE and
its place free; then it starts the evacuation that R77 gives, and without one the leveling move that R78 gives. -/
def Obligations.MonitorStartsAtMostOneMove : Prop :=
  ∀ (s : State) (c : Fin 4), s.keysLawful = true →
    let looks : Prop := s.device = .ready ∧ s.channels[c].state = .online ∧ s.moves[c] = none
    (¬looks → s.evaluate c = s) ∧
    (looks →
      (∀ b n t, s.Evacuates c b n t → s.evaluate c = s.startMove n b t .evacuation) ∧
      ((¬∃ b n t, s.Evacuates c b n t) → ∀ b n f, s.Levels c b n f → s.evaluate c = s.startMove n b f .leveling) ∧
      ((¬∃ b n t, s.Evacuates c b n t) → (¬∃ b n f, s.Levels c b n f) → s.evaluate c = s))

/-- R81, R82: a DONE reply to a COPY commits a COPYING move: the logical is rebound to the target with its generation
raised by one and the source goes through unit release. It ends an ABANDONING move, whose target becomes DIRTY or
RETIRED(HOST). The notices of a retirement stand before the move's own report (R44, R89, R90). The monitor then looks at the
channel, and the arbiter chooses. -/
def Obligations.CopyDoneCommitsOrEndsTheMove : Prop :=
  ∀ (s : State) (c : Fin 4) (op : Op) (m : Move) (tu : UnitRec), s.resetLow = false → s.lawful = true → TagInv s →
    s.channels[c].inFlight = some op → op.owner = .relocation → s.moves[c] = some m → s.unit? m.target = some tu →
    let idle := s.channels.set c { s.channels[c] with inFlight := none }
    (m.phase = .copying → tu.retirePending = false → ∀ r su, s.map[m.logical]? = some r → s.unit? m.source = some su →
      ∃ t : State, exec (.copyDone c) s = .next ((t.evaluate c).settle (some c)) ∧ s.SameControl t ∧
        t.map = s.map.set m.logical ⟨some m.target, r.generation + 1, none⟩ ∧
        t.unit? m.target = some ⟨.bound m.logical, tu.wear, tu.holds, false⟩ ∧
        t.unit? m.source = some (released (s.ckpt.recordsBound m.source) su) ∧
        (∀ x, x ≠ m.target → x ≠ m.source → t.unit? x = s.unit? x) ∧ JoinsTail s t m.source ∧
        AutoCheckpoint { s with channels := idle } t m.source ∧ t.moves = s.moves.set c none ∧
        t.waiters = s.waiters ∧ t.holds = s.holds ∧
        (∀ tag, m.origin = .host tag → PlacedLast s t tag
          (moveRecord tag .ok c m .none (some m.target, r.generation + 1) s.tick)) ∧
        t.link = (s.link.letGo su.retirePending m.source (s.spareCount - 1) s.params.sMin).moveOutcome c m .ok .none
          (some m.target, r.generation + 1) s.tick ∧
        Counted s t (fun
          | .movesCommitted => 1 | .retirements => if su.retirePending = true then 1 else 0 | _ => 0)) ∧
    (m.phase = .abandoning →
      ∃ t : State, exec (.copyDone c) s = .next ((t.evaluate c).settle (some c)) ∧ s.SameControl t ∧
        t.map = s.map ∧ t.unit? m.target = some (discarded tu) ∧ (∀ x, x ≠ m.target → t.unit? x = s.unit? x) ∧
        JoinsTail s t m.target ∧ t.ckpt = s.ckpt ∧ t.channels = idle ∧ t.moves = s.moves.set c none ∧
        t.waiters = s.waiters ∧ t.holds = s.holds ∧
        (∀ tag, m.origin = .host tag → PlacedLast s t tag
          (moveRecord tag .moveAbandoned c m .none (s.bindingOf m.logical) s.tick)) ∧
        t.link = (s.link.letGo tu.retirePending m.target (s.spareCount - 1) s.params.sMin).moveOutcome c m .moveAbandoned
          .none (s.bindingOf m.logical) s.tick ∧
        Counted s t (fun
          | .movesAbandoned => 1 | .retirements => if tu.retirePending = true then 1 else 0 | _ => 0))

/-- R83, R84: a FAIL reply to a COPY ends the move: the target is RETIRED(PROGRAM_FAIL), or after FAIL(READ) DIRTY or
RETIRED(HOST); the source and the binding are unchanged; a COPYING move fails and an ABANDONING one ends abandoned. The
notices of a retirement stand before the move's own report (R44, R89, R90). -/
def Obligations.CopyFailureEndsTheMove : Prop :=
  ∀ (s : State) (c : Fin 4) (op : Op) (m : Move) (tu : UnitRec), s.resetLow = false → s.lawful = true → TagInv s →
    s.channels[c].inFlight = some op → op.owner = .relocation → s.moves[c] = some m → s.unit? m.target = some tu →
    let st : Status := if m.phase = .abandoning then .moveAbandoned else .moveFailed
    let failed := if m.phase = .abandoning then 0 else 1
    let frame (t : State) (why : MoveReason) (l : Link) : Prop := s.SameControl t ∧
      t.link = l.moveOutcome c m st why (s.bindingOf m.logical) s.tick ∧
      t.map = (if m.phase = .abandoning then s.map else s.map.modify m.logical fun r => { r with move := none }) ∧
      (∀ x, x ≠ m.target → t.unit? x = s.unit? x) ∧ t.ckpt = s.ckpt ∧ t.moves = s.moves.set c none ∧
      t.channels = s.channels.set c { s.channels[c] with inFlight := none } ∧ t.waiters = s.waiters ∧
      t.holds = s.holds ∧
      (∀ tag, m.origin = .host tag → PlacedLast s t tag
        (moveRecord tag st c m why (s.bindingOf m.logical) s.tick))
    (∃ t : State, exec (.copyFailProgram c) s = .next ((t.evaluate c).settle (some c)) ∧ frame t .program
        (s.link.retirement m.target .programFail (s.spareCount - 1) s.params.sMin) ∧
      t.unit? m.target = some ⟨.retired .programFail, tu.wear, tu.holds, false⟩ ∧ t.eraseQueues = s.eraseQueues ∧
      Counted s t (fun | .movesFailed => failed | .movesAbandoned => 1 - failed | .retirements => 1 | _ => 0)) ∧
    (∃ t : State, exec (.copyFailRead c) s = .next ((t.evaluate c).settle (some c)) ∧ frame t .read
        (s.link.letGo tu.retirePending m.target (s.spareCount - 1) s.params.sMin) ∧
      t.unit? m.target = some (discarded tu) ∧ JoinsTail s t m.target ∧
      Counted s t (fun
        | .sourceReadFailures => 1 | .movesFailed => failed | .movesAbandoned => 1 - failed
        | .retirements => if tu.retirePending = true then 1 else 0 | _ => 0))

/-! ### Checkpoints -/

/-- R96, R97, R98, R100: an accepted CHECKPOINT takes its snapshot of the tables and places the erase of the slot that does
not hold the durable image; it stays open. -/
def Obligations.CheckpointIsAccepted : Prop :=
  ∀ (s : State) (f : Frame) (rest : List Frame), s.Passes .checkpoint f rest → s.ckpt.flight = none →
    s.ckpt.durableGen ≠ 0xFFFFFFFF →
    let k : Slot := if s.ckpt.durableSlot = some .a then .b else .a
    let place : Fin 4 × Nat :=
      if k = .a then (0, 0) else if (s.channels[(1 : Fin 4)]).unitCount = 0 then (0, 1) else (1, 0)
    let counts : Vector Nat 4 := s.channels.map fun ch =>
      match ch.state with | .online => ch.count | .faulted => ch.count | .restarting => ch.count | _ => 0
    let record (u : UnitRec) : RecUnit := match u.state with
      | .bound n => ⟨.bound n, u.wear, u.retirePending⟩
      | .retired cause => ⟨.retired cause, u.wear, false⟩
      | .erasing => ⟨.free, u.wear, u.retirePending⟩
      | .target _ => ⟨.free, u.wear, u.retirePending⟩
      | _ => ⟨.free, u.wear, false⟩
    s.channels[place.1].state = .online →
    exec .checkpoint s = .next (({ s.taken rest with
      ckpt := { s.ckpt with flight := some ⟨.erasingSlot, .host f.tag, k,
        ⟨s.ckpt.durableGen + 1, k, counts, s.map.map (·.generation), s.params,
          s.units.map fun p => (p.1, record p.2)⟩⟩ }
      channels := s.channels.set place.1 { s.channels[place.1] with
        pendingImage := some ⟨.erase place.2, .checkpoint⟩ } } : State).settle none)

/-- R114, R115, R140, R141, R143, R27, R2: the image of a snapshot has the length of R114, start-up judges it VALID in the
slot it names, and loading it gives back every record, generation and parameter of the snapshot. -/
def Obligations.WrittenImageIsValidAndLoads : Prop :=
  ∀ k : Snapshot, k.Recordable →
    k.image.length = 32 + 6 * k.counts.toList.sum + 2 * k.generations.length + 4 ∧
    judgeSlot k.counts k.target (.bytes k.image) = .valid ∧
    imageUnits k.counts k.image = k.units ∧ imageGenerations k.image = k.generations ∧
    headerParams k.image = k.params ∧ headerGeneration k.image = k.generation ∧
    (∀ s : State, s.counts = k.counts →
      let t := s.loadImage k.target k.image
      t.device = .ready ∧ t.params = k.params ∧
      t.ckpt.durableGen = k.generation ∧ t.ckpt.durableSlot = some k.target ∧ t.ckpt.flight = none ∧
      (∀ g, g ∈ t.ckpt.durableBound ↔ ∃ n w p, (g, (⟨.bound n, w, p⟩ : RecUnit)) ∈ k.units) ∧
      (∀ g n w p, (g, (⟨.bound n, w, p⟩ : RecUnit)) ∈ k.units →
        t.unit? g = some ⟨.bound n, w, 0, p⟩ ∧ ∃ gen, k.generations[n]? = some gen ∧ t.map[n]? = some ⟨some g, gen, none⟩) ∧
      (∀ g c w p, (g, (⟨.retired c, w, p⟩ : RecUnit)) ∈ k.units → t.unit? g = some ⟨.retired c, w, 0, false⟩) ∧
      (∀ g w, (g, (⟨.free, w, false⟩ : RecUnit)) ∈ k.units → t.unit? g = some ⟨.dirty, w, 0, false⟩) ∧
      (∀ g w, (g, (⟨.free, w, true⟩ : RecUnit)) ∈ k.units → t.unit? g = some ⟨.retired .host, w, 0, false⟩) ∧
      t.map.map (·.generation) = k.generations)

/-- R101: a DONE reply to a checkpoint's slot erase empties the unconfirmed BOUND set, makes the phase WRITING and places
the WRITE IMAGE of the snapshot's image; the arbiter issues it. -/
def Obligations.SlotEraseDonePlacesTheWrite : Prop :=
  ∀ (s : State) (c : Fin 4) (op : Op) (i : Nat) (fl : Flight), s.resetLow = false →
    s.channels[c].inFlight = some op → op.owner = .checkpoint → op.kind = .erase i → s.ckpt.flight = some fl →
    c = s.slotChannel fl.target → s.channels[c].state = .online →
    exec (.slotEraseDone c) s = .next (({ s with
      ckpt := { s.ckpt with unconfirmed := [], flight := some { fl with phase := .writing } }
      channels := s.channels.set c { s.channels[c] with
        inFlight := none
        pendingImage := some ⟨.writeImage (s.slotIndex fl.target) fl.snapshot.image, .checkpoint⟩ } } : State).settle
      (some c)) ∧
    (s.device = .ready ∨ s.device = .service ∨ s.device = .formatting → ∃ t : State,
      exec (.slotEraseDone c) s = .next t ∧ t.channels[c].inFlight =
        some ⟨.writeImage (s.slotIndex fl.target) fl.snapshot.image, .checkpoint, s.tick⟩ ∧
      t.channels[c].pendingImage = none)

/-- R104, R105, R106, R108, R109, R149, R150: the end of a checkpoint at a FAIL(ERASE) to its slot erase and at a DONE or a
FAIL(PROGRAM) to its WRITE IMAGE: the durable state, the units that leave the commit-wait set, the counters and the report.
The waiters are then re-examined (R19), and the arbiter chooses. -/
def Obligations.CheckpointEndSortsTheWaiting : Prop :=
  ∀ (s : State) (c : Fin 4) (op : Op) (fl : Flight), s.resetLow = false → s.lawful = true →
    s.channels[c].inFlight = some op → op.owner = .checkpoint → s.ckpt.flight = some fl →
    let ends (i : Instr) (k : Ckpt) (st : Status) (why : CkptReason) (done failed : Nat) : Prop :=
      let leaves (p : Nat × UnitRec) : Bool :=
        p.2.state.isWaiting && !k.durableBound.contains p.1 && !k.unconfirmed.contains p.1
      let n := (s.units.filter leaves).length
      ∃ t : State, exec i s = .next (t.reexamine.settle (some c)) ∧ t.ckpt = k ∧
        t.units = (s.units.map fun p => if leaves p = true then (p.1, { p.2 with state := .dirty }) else p) ∧
        (∀ d : Fin 4, t.eraseQueues[d] = s.eraseQueues[d] ++
          (s.units.filter fun p => leaves p && (chanOf p.1 == d)).map (·.1)) ∧
        t.map = s.map ∧ t.holds = s.holds ∧ t.moves = s.moves ∧ t.waiters = s.waiters ∧ t.params = s.params ∧
        t.tick = s.tick ∧ t.channels = s.channels.set c { s.channels[c] with inFlight := none } ∧
        Counted s t (fun | .checkpointsCompleted => done | .checkpointsFailed => failed | _ => 0) ∧
        (fl.origin ≠ .format → s.SameControl t) ∧
        (∀ tag, fl.origin = .host tag → tag ∈ s.link.openTags → t.link = { s.link with
          openTags := s.link.openTags.erase tag
          queue := s.link.queue ++ [checkpointRecord tag st fl.snapshot.generation fl.target why n] }) ∧
        (fl.origin = .auto → t.link = s.link.post .checkpointResult
          (checkpointResultNotice st fl.snapshot.generation fl.target why n)) ∧
        (fl.origin = .orphaned → t.link = s.link) ∧
        (∀ fr, fl.origin = .format → s.formatRec = some fr → t.formatRec = none ∧
          t.device = (if st = .ok then .ready else .failed .slot) ∧
          (fr.origin = .orphaned → t.link = s.link) ∧
          (∀ tag, fr.origin = .host tag → tag ∈ s.link.openTags → t.link = { s.link with
            openTags := s.link.openTags.erase tag
            queue := s.link.queue ++ [
              if st = .ok then formatRecord tag fr.l fr.sMin (usableUnits s.counts).length s.spareCount
              else formatFailedRecord tag (if why = .program then .program else .erase) fr.step] }))
    (∀ i, op.kind = .erase i →
      ends (.slotEraseFail c) { s.ckpt with flight := none } .checkpointFailed .erase 0 1) ∧
    (∀ i bs, op.kind = .writeImage i bs →
      ends (.writeImageDone c)
        ⟨fl.snapshot.generation, some fl.target, fl.snapshot.bound, s.ckpt.unconfirmed, none⟩ .ok .none 1 0 ∧
      ends (.writeImageFail c) { s.ckpt with flight := none } .checkpointFailed .program 0 1)

/-- R93, R95, R97, R113, R122: the durable slot is none exactly when the durable generation is 0; a checkpoint in flight
writes the next generation to the slot that does not hold the durable image; the checkpoint of a FORMAT is the one in flight
in FORMATTING. Every step keeps it. -/
def Obligations.CheckpointStateKept : Prop :=
  ∀ s t : State, DeviceInv s → CkptInv s → step s = .next t → CkptInv t

/-! ### Channels -/

/-- R120, R121, R37, R80, R119: what an arbiter issues, by priority, on an ONLINE channel with nothing in flight. Of an image
operation and an erase that one claim brings to an idle channel, either may go first (R121; log 6); after the end of an
operation (`ended`) the image operation goes first. -/
def Obligations.ArbiterIssuesByPriority : Prop :=
  ∀ (s : State) (c : Fin 4) (ended : Bool),
    let ch := s.channels[c]
    let images : Prop := s.device = .starting ∨ s.device = .formatting ∨ s.device = .ready ∨ s.device = .service
    let erases : Prop := s.device = .ready ∨ s.device = .service ∨ (s.device = .formatting ∧ s.ckpt.flight ≠ none)
    let image (w : ImageWork) : State := { s with
      channels := s.channels.set c { ch with inFlight := some ⟨w.kind, w.owner, s.tick⟩, pendingImage := none } }
    let erase (g : Nat) (rest : List Nat) : State := { s with
      eraseQueues := s.eraseQueues.set c rest
      units := modifyIn s.units g fun u => { u with state := .erasing }
      channels := s.channels.set c { ch with inFlight := some ⟨.erase (g % 1024), .unitManager, s.tick⟩ } }
    let noImage : Prop := ch.pendingImage = none ∨ ¬images
    let noCopy : Prop := ∀ m, s.moves[c] = some m → m.phase = .assigned → s.device ≠ .ready
    let noErase : Prop := s.eraseQueues[c] = [] ∨ ¬erases
    (ch.state ≠ .online ∨ ch.inFlight ≠ none → s.arbitrate c ended = s) ∧
    (ch.state = .online → ch.inFlight = none →
      (∀ w, ch.pendingImage = some w → images → (ended = true ∨ noErase) → s.arbitrate c ended = image w) ∧
      (∀ w g rest, ch.pendingImage = some w → images → s.eraseQueues[c] = g :: rest → erases → ended = false →
        s.arbitrate c ended = image w ∨ s.arbitrate c ended = erase g rest) ∧
      (∀ m, noImage → s.moves[c] = some m → m.phase = .assigned → s.device = .ready → s.arbitrate c ended = { s with
        moves := s.moves.set c (some { m with phase := .copying })
        channels := s.channels.set c { ch with
          inFlight := some ⟨.copy (m.source % 1024) (m.target % 1024), .relocation, s.tick⟩ } }) ∧
      (∀ g rest, noImage → noCopy → s.eraseQueues[c] = g :: rest → erases → s.arbitrate c ended = erase g rest) ∧
      (noImage → noCopy → noErase → s.arbitrate c ended = s))

/-- R125: a reply that arrives while the channel has nothing in flight is discarded and counted; nothing else changes. That
every command which brings a reply (ERASE_DONE, COPY_DONE and the rest) is then such a stray reply, as STRAY_REPLY is, is
read from 6.2: the controller knows a reply by its kind alone (log 2). -/
def Obligations.StrayReplyIsCounted : Prop :=
  ∀ (s : State) (i : Instr) (c : Fin 4) (r : Reply), s.resetLow = false → s.channels[c].inFlight = none →
    i = .strayReply c r ∨ replyOf i = some (c, r) →
    exec i s = .next { s with counters := s.counters.set 14 (s.counters[(14 : Fin 19)] + 1) }

/-- R118, R123, R124 and 6.2: the replies that an operation accepts; a reply is known by its kind alone, so that every
command that brings the same reply to the same channel has the same effect (log 2). -/
def Obligations.RepliesAreMatchedByKind : Prop :=
  (∀ (k : OpKind) (r : Reply), k.accepts r = true ↔ match k with
    | .identify => ∃ n, r = .ident n
    | .reset => r = .done
    | .erase _ => r = .done ∨ r = .failErase
    | .copy _ _ => r = .done ∨ r = .failProgram ∨ r = .failRead
    | .readImage _ => (∃ bs, r = .doneBytes bs) ∨ r = .failRead
    | .writeImage _ _ => r = .done ∨ r = .failProgram) ∧
  (∀ (i j : Instr) (s : State), replyOf i ≠ none → replyOf i = replyOf j → exec i s = exec j s)

/-- R124, R126, R127, R128, R130, R133, R40, R87, R103, R139, R150: a reply of an unaccepted kind, or the passing of the
deadline, ends the operation in flight. During the start-up probe the channel becomes ABSENT, during a restart the restart
fails, and otherwise the channel faults and hands its work back to the owners: the record of a host's move, checkpoint or
FORMAT that ends so carries the reason CHANNEL (R89, R108, R150), and a start-up read that is lost leaves its slot UNREAD. -/
def Obligations.LostOperationEndsByItsOwner : Prop :=
  ∀ (s : State) (i : Instr) (c : Fin 4) (op : Op) (cause : FaultCause), s.resetLow = false → s.lawful = true →
    s.channels[c].inFlight = some op →
    ((i = .operationDeadline c ∧ op.kind.deadline ≤ (s.tick - op.start).toNat ∧ cause = .deadline) ∨
      (∃ r, i = .unacceptedReply c r ∧ op.kind.accepts r = false ∧ cause = .protocol)) →
    let ch := s.channels[c]
    let noticed := s.link.post .channelFault (channelFaultNotice c cause op.kind s.tick)
    let b : Fin 4 × Nat := if (s.channels[(1 : Fin 4)]).unitCount = 0 then (0, 1) else (1, 0)
    let leaving (unconfirmed : List Nat) : Nat := (s.units.filter fun p =>
      p.2.state.isWaiting && !s.ckpt.durableBound.contains p.1 && !unconfirmed.contains p.1).length
    (op.owner = .stateControl → op.kind = .reset ∨ op.kind = .identify →
      exec i s = .next (({ s with
        channels := s.channels.set c { ch with state := .absent, count := 0, inFlight := none } } :
          State).testProbeEnd.settle (some c))) ∧
    (op.owner = .restart → ∃ t : State, exec i s = .next t.reexamine ∧
      t = { s with
        channels := s.channels.set c { ch with state := .faulted, fault := some cause, restart := none, inFlight := none }
        link := t.link } ∧
      (∀ tag, ch.restart = some (.host tag) → tag ∈ s.link.openTags → t.link = { s.link with
        openTags := s.link.openTags.erase tag
        queue := s.link.queue ++ [⟨tag, 10, 15, 0, join16 (BitVec.ofNat 8 c.val) (faultByte ch.fault),
          join16 (if cause = .deadline then 1 else 2) 0, 0, 0⟩] }) ∧
      (ch.restart = some .orphaned → t.link = s.link)) ∧
    (op.owner ≠ .restart → ¬(op.owner = .stateControl ∧ (op.kind = .reset ∨ op.kind = .identify)) →
      ∃ t : State, exec i s = .next ((t.reexamine.evaluate c).settle none) ∧
        t.channels[c].state = .faulted ∧ t.channels[c].fault = some cause ∧ t.channels[c].inFlight = none ∧
        t.channels[c].pendingImage = none ∧ t.channels[c].count = ch.count ∧
        noticed.queue <+: t.link.queue ∧
        t.tick = s.tick ∧ t.resetLow = s.resetLow ∧ t.pending = s.pending ∧ t.holds = s.holds ∧
        t.waiters = s.waiters ∧
        (s.device ≠ .starting → s.map.length = t.map.length ∧
          (∀ n, (t.bindingOf n) = (s.bindingOf n)) ∧ t.params = s.params ∧
          ∀ g u, s.unit? g = some u → ∃ v, t.unit? g = some v ∧ v.wear = u.wear ∧ v.holds = u.holds) ∧
        (∀ j u, op.owner = .unitManager → op.kind = .erase j → s.unit? (globalOf c j) = some u →
          t.unit? (globalOf c j) = some (discarded u) ∧
          (u.retirePending = false → (t.eraseQueues[c]).head? = some (globalOf c j))) ∧
        (TagInv s → ∀ m tag, s.moves[c] = some m → m.origin = .host tag →
          op.owner = .relocation ∨ m.phase = .assigned → tag ∉ t.link.openTags ∧
          moveRecord tag (if m.phase = .abandoning then .moveAbandoned else .moveFailed) c m .channel
            (s.bindingOf m.logical) s.tick ∈ t.link.queue) ∧
        (∀ m u, op.owner = .relocation → s.moves[c] = some m → s.unit? m.target = some u →
          t.moves = s.moves.set c none ∧ t.unit? m.target = some (discarded u) ∧
          (u.retirePending = false → (t.eraseQueues[c]).head? = some m.target) ∧
          (∀ r, s.map[m.logical]? = some r → m.phase = .copying →
            t.map[m.logical]? = some { r with move := none })) ∧
        (∀ m, op.owner ≠ .relocation → s.moves[c] = some m → m.phase = .assigned →
          t.moves = s.moves.set c none ∧ t.stateOf m.target = some .free ∧
          t.counter .movesFailed = s.counter .movesFailed + 1) ∧
        (∀ fl, op.owner = .checkpoint → s.device ≠ .starting → s.ckpt.flight = some fl →
          let u := match op.kind with | .writeImage _ _ => fl.snapshot.bound | _ => s.ckpt.unconfirmed
          t.ckpt = { s.ckpt with flight := none, unconfirmed := u } ∧
          t.counter .checkpointsFailed = s.counter .checkpointsFailed + 1 ∧
          (TagInv s → ∀ tag, fl.origin = .host tag → tag ∉ t.link.openTags ∧
            checkpointRecord tag .checkpointFailed fl.snapshot.generation fl.target .channel (leaving u) ∈
              t.link.queue) ∧
          (ch.pendingImage = none → (∀ m, s.moves[c] = some m → m.phase ≠ .assigned) →
            (fl.origin = .auto → t.link = noticed.post .checkpointResult
              (checkpointResultNotice .checkpointFailed fl.snapshot.generation fl.target .channel (leaving u))) ∧
            (fl.origin = .orphaned → t.link = noticed))) ∧
        (∀ fl w, op.owner = .unitManager ∨ op.owner = .relocation → ch.pendingImage = some w → w.owner = .checkpoint →
          s.ckpt.flight = some fl → t.ckpt = { s.ckpt with flight := none } ∧
          t.counter .checkpointsFailed = s.counter .checkpointsFailed + 1 ∧
          (TagInv s → ∀ tag, fl.origin = .host tag → tag ∉ t.link.openTags ∧
            checkpointRecord tag .checkpointFailed fl.snapshot.generation fl.target .channel
              (leaving s.ckpt.unconfirmed) ∈ t.link.queue)) ∧
        (∀ fr, s.formatRec = some fr →
          (∃ j, op.owner = .stateControl ∧ op.kind = .erase j) ∨
            (op.owner = .unitManager ∧ ∃ j, ch.pendingImage = some ⟨.erase j, .stateControl⟩) ∨
            (op.owner = .checkpoint ∧ ∃ fl, s.ckpt.flight = some fl ∧ fl.origin = .format) →
          t.device = .failed .slot ∧ t.formatRec = none ∧
          (TagInv s → ∀ tag, fr.origin = .host tag → tag ∉ t.link.openTags ∧
            (⟨tag, 13, 16, 0, join16 3 fr.step.byte, 0, 0, 0⟩ : Record) ∈ t.link.queue)) ∧
        (∀ j, op.owner = .stateControl → op.kind = .readImage j → s.startup.stage = .readingB →
          t.startup.stage = .ended ∧ t.device ≠ .starting) ∧
        (∀ j, op.owner = .stateControl → op.kind = .readImage j → ch.pendingImage = none →
          (s.startup.stage = .readingA → s.channels[b.1].state = .online → b.1 ≠ c →
            t.device = s.device ∧ t.startup = ⟨.readingB, some .unread⟩ ∧
            t.channels[b.1].pendingImage = some ⟨.readImage b.2, .stateControl⟩ ∧ t.link = noticed) ∧
          (s.startup.stage = .readingA → s.channels[b.1].state ≠ .online ∨ b.1 = c →
            t.device = .unformatted ∧ t.startup = ⟨.ended, none⟩ ∧
            t.link = noticed.post .started (startedNotice .unformatted s.presentBits .unread .unread none 0)) ∧
          (∀ a, s.startup.stage = .readingB → s.startup.slotA = some a →
            let ra := judgeSlot s.counts .a a
            let d : DeviceState := if ra = .intact then .failed .geometry else .unformatted
            t.startup = ⟨.ended, none⟩ ∧
            (∀ x, ra = .valid → a = .bytes x → t.device = .ready ∧ t.ckpt.durableSlot = some .a ∧
              t.link = noticed.post .started
                (startedNotice .ready s.presentBits ra .unread (some .a) (headerGeneration x))) ∧
            (ra ≠ .valid → t.device = d ∧
              t.link = noticed.post .started (startedNotice d s.presentBits ra .unread none 0)))))

/-- R131, R132, R133, R116: RESTART_CHANNEL resets a FAULTED channel and stays open; the DONE to its RESET issues IDENTIFY;
an IDENT with the recorded count brings the channel ONLINE, the waiters are served and re-examined, the monitor looks at
the channel and the arbiter chooses; another count fails the restart. -/
def Obligations.RestartRunsItsSteps : Prop :=
  (∀ (s : State) (f : Frame) (rest : List Frame) (c : Fin 4), s.Passes .restartChannel f rest →
    f.selector.toNat = c.val → s.channels[c].state = .faulted →
    exec .restartChannel s = .next { s.taken rest with channels := s.channels.set c { s.channels[c] with
      state := .restarting, restart := some (.host f.tag), inFlight := some ⟨.reset, .restart, s.tick⟩ } }) ∧
  (∀ (s : State) (c : Fin 4) (op : Op), s.resetLow = false → s.channels[c].inFlight = some op → op.owner = .restart →
    (op.kind = .reset → exec (.restartResetDone c) s = .next { s with channels := s.channels.set c { s.channels[c] with
      inFlight := some ⟨.identify, .restart, s.tick⟩ } }) ∧
    (op.kind = .identify → ∀ n : Word16,
      let ends (ch : Channel) (status : Byte) (why : Byte) (count : Word16) (t : State) : Prop :=
        t = { s with channels := s.channels.set c ch, link := t.link } ∧
        (∀ tag, s.channels[c].restart = some (.host tag) → tag ∈ s.link.openTags → t.link = { s.link with
          openTags := s.link.openTags.erase tag
          queue := s.link.queue ++ [⟨tag, 10, status, 0,
            join16 (BitVec.ofNat 8 c.val) (faultByte s.channels[c].fault), join16 why 0, count, 0⟩] }) ∧
        (s.channels[c].restart = some .orphaned → t.link = s.link)
      (n.toNat = s.channels[c].count → ∃ t : State,
        exec (.restartIdent c n) s = .next ((t.serveAndReexamine.evaluate c).settle (some c)) ∧
        ends { s.channels[c] with state := .online, fault := none, restart := none, inFlight := none } 0 0 n t) ∧
      (n.toNat ≠ s.channels[c].count → ∃ t : State, exec (.restartIdent c n) s = .next t.reexamine ∧
        ends { s.channels[c] with state := .faulted, fault := some .protocol, restart := none, inFlight := none } 15 3 n
          t)))

/-! ### Device states -/

/-- R130, R138, R139, R142, R144: the steps of start-up: the probe of a channel, the end of the probe, the two reads, and
the choice of the image. -/
def Obligations.StartupRunsItsSteps : Prop :=
  (∀ (s : State) (c : Fin 4) (op : Op), s.resetLow = false → s.channels[c].inFlight = some op →
    op.owner = .stateControl →
    (op.kind = .reset → exec (.probeResetDone c) s = .next { s with channels := s.channels.set c { s.channels[c] with
      inFlight := some ⟨.identify, .stateControl, s.tick⟩ } }) ∧
    (op.kind = .identify → ∀ n : Word16,
      let ch : Channel :=
        if 64 ≤ n.toNat ∧ n.toNat ≤ 1024 then { s.channels[c] with state := .online, count := n.toNat, inFlight := none }
        else { s.channels[c] with state := .absent, count := 0, inFlight := none }
      exec (.probeIdent c n) s =
        .next (({ s with channels := s.channels.set c ch } : State).testProbeEnd.settle (some c)))) ∧
  (∀ s : State, s.startup.stage = .probing →
    ((∃ c : Fin 4, s.channels[c].state = .undetermined) → s.testProbeEnd = s) ∧
    ((∀ c : Fin 4, s.channels[c].state ≠ .undetermined) →
      (s.channels[(0 : Fin 4)].state = .absent → s.testProbeEnd =
        ({ s with device := .failed .noMedia, startup := ⟨.ended, none⟩ } : State).post .started
          (startedNotice (.failed .noMedia) s.presentBits .unread .unread none 0)) ∧
      (s.channels[(0 : Fin 4)].state = .online → s.testProbeEnd = { s with
        startup := ⟨.readingA, none⟩
        channels := s.channels.set 0 { s.channels[(0 : Fin 4)] with
          pendingImage := some ⟨.readImage 0, .stateControl⟩ } }))) ∧
  (∀ (s : State) (c : Fin 4) (op : Op) (j : Nat) (i : Instr) (result : SlotRead), s.resetLow = false →
    s.channels[c].inFlight = some op → op.owner = .stateControl → op.kind = .readImage j →
    ((∃ bs, i = .readImageDone c bs ∧ result = .bytes bs) ∨ (i = .readImageFail c ∧ result = .unread)) →
    let idle : State := { s with channels := s.channels.set c { s.channels[c] with inFlight := none } }
    let b : Fin 4 × Nat := if (s.channels[(1 : Fin 4)]).unitCount = 0 then (0, 1) else (1, 0)
    (s.startup.stage = .readingA → s.channels[b.1].state = .online → exec i s = .next (({ idle with
      startup := ⟨.readingB, some result⟩
      channels := idle.channels.set b.1 { idle.channels[b.1] with
        pendingImage := some ⟨.readImage b.2, .stateControl⟩ } } : State).settle (some c))) ∧
    (s.startup.stage = .readingA → s.channels[b.1].state ≠ .online → exec i s =
      .next ((idle.judge result .unread).settle (some c))) ∧
    (∀ a, s.startup.stage = .readingB → s.startup.slotA = some a → exec i s =
      .next ((idle.judge a result).settle (some c)))) ∧
  (∀ (s : State) (a b : SlotRead),
    let ra := judgeSlot s.counts .a a
    let rb := judgeSlot s.counts .b b
    let loads (k : Slot) (bs : List Byte) : Prop := s.judge a b =
      ({ s.loadImage k bs with startup := ⟨.ended, none⟩ } : State).post .started
        (startedNotice .ready s.presentBits ra rb (some k) (headerGeneration bs))
    let fails (d : DeviceState) : Prop := s.judge a b = ({ s with device := d, startup := ⟨.ended, none⟩ } : State).post
      .started (startedNotice d s.presentBits ra rb none 0)
    (∀ x, a = .bytes x → ra = .valid → rb ≠ .valid → loads .a x) ∧
    (∀ y, b = .bytes y → ra ≠ .valid → rb = .valid → loads .b y) ∧
    (∀ x y, a = .bytes x → b = .bytes y → ra = .valid → rb = .valid →
      ((headerGeneration y).toNat ≤ (headerGeneration x).toNat → loads .a x) ∧
      ((headerGeneration x).toNat < (headerGeneration y).toNat → loads .b y)) ∧
    (ra ≠ .valid → rb ≠ .valid → ra = .intact ∨ rb = .intact → fails (.failed .geometry)) ∧
    (ra ≠ .valid → rb ≠ .valid → ra ≠ .intact → rb ≠ .intact → fails .unformatted))

/-- R146, R147, R150, R94: an accepted FORMAT erases slot B and then slot A; a failed or lost slot erase fails it with its
reason and step. -/
def Obligations.FormatRunsItsSteps : Prop :=
  (∀ (s : State) (f : Frame) (rest : List Frame), s.Passes .format f rest → s.ckpt.flight = none →
    let b : Fin 4 × Nat := if (s.channels[(1 : Fin 4)]).unitCount = 0 then (0, 1) else (1, 0)
    let fr : FormatRec := ⟨.host f.tag, f.argA, f.argB, f.flag0, s.device, .eraseB⟩
    (s.channels[b.1].state = .online → exec .format s = .next (({ s.taken rest with
      device := .formatting
      formatRec := some fr
      channels := s.channels.set b.1 { s.channels[b.1] with
        pendingImage := some ⟨.erase b.2, .stateControl⟩ } } : State).settle none)) ∧
    (s.channels[b.1].state ≠ .online → exec .format s = .next (({ s.answered f rest
        ⟨f.tag, 13, 16, 0, join16 3 1, 0, 0, 0⟩ with
      device := .failed .slot
      formatRec := none } : State).settle none))) ∧
  (∀ (s : State) (c : Fin 4) (op : Op) (j : Nat) (fr : FormatRec), s.resetLow = false →
    s.channels[c].inFlight = some op → op.owner = .stateControl → op.kind = .erase j → s.formatRec = some fr →
    let idle : State := { s with channels := s.channels.set c { s.channels[c] with inFlight := none } }
    let fails (why : Byte) (step : Byte) (i : Instr) : Prop := ∃ t : State, exec i s = .next (t.settle (some c)) ∧
      t = { idle with device := .failed .slot, formatRec := none, link := t.link } ∧
      (∀ tag, fr.origin = .host tag → tag ∈ s.link.openTags → t.link = { s.link with
        openTags := s.link.openTags.erase tag
        queue := s.link.queue ++ [⟨tag, 13, 16, 0, join16 why step, 0, 0, 0⟩] }) ∧
      (fr.origin = .orphaned → t.link = s.link)
    (fr.step = .eraseB → s.channels[(0 : Fin 4)].state = .online → exec (.formatSlotEraseDone c) s = .next (({ idle with
      formatRec := some { fr with step := .eraseA }
      channels := idle.channels.set 0 { idle.channels[(0 : Fin 4)] with
        pendingImage := some ⟨.erase 0, .stateControl⟩ } } : State).settle (some c))) ∧
    (fr.step = .eraseB → s.channels[(0 : Fin 4)].state ≠ .online → fails 3 2 (.formatSlotEraseDone c)) ∧
    (fr.step = .eraseA → exec (.formatSlotEraseDone c) s = .next (({ idle with
      formatRec := some { fr with step := .imageWrite }
      ckpt := ⟨0, none, [], [], s.ckpt.flight⟩ } : State).settle (some c))) ∧
    (fr.step = .eraseB → fails 1 1 (.formatSlotEraseFail c)) ∧
    (fr.step = .eraseA → fails 1 2 (.formatSlotEraseFail c)))

/-- R148, R149, R113, R27, R2: the unit reset of a FORMAT, due when both slots are erased and, but for a FORMAT taken in
SERVICE, no erase of a usable unit is in flight: the tables, the queues, S_min, and the checkpoint of generation 1. -/
def Obligations.FormatUnitResetRebuildsTheTables : Prop :=
  ∀ (s : State) (fr : FormatRec), s.resetLow = false → s.formatRec = some fr → s.device = .formatting →
    fr.step = .imageWrite → s.ckpt = ⟨0, none, [], [], none⟩ → s.channels[(0 : Fin 4)].state = .online →
    (fr.takenIn = .service ∨ ∀ (c : Fin 4) (op : Op), s.channels[c].inFlight = some op → op.owner ≠ .unitManager) →
    ∃ (t : State) (snap : Snapshot), exec .formatUnitReset s = .next (t.settle none) ∧
      t = { s with
        units := t.units
        map := List.replicate fr.l.toNat ⟨none, 0, none⟩
        eraseQueues := t.eraseQueues
        params := { s.params with sMin := fr.sMin }
        ckpt := { s.ckpt with flight := some ⟨.writing, .format, .a, snap⟩ }
        channels := s.channels.set 0 { s.channels[(0 : Fin 4)] with
          pendingImage := some ⟨.writeImage 0 snap.image, .checkpoint⟩ } } ∧
      snap = ⟨1, .a, s.counts, List.replicate fr.l.toNat 0, t.params, t.units.map fun p => (p.1, recordUnit p.2)⟩ ∧
      (fr.takenIn ≠ .service → t.units = (usableUnits s.counts).map fun g => (g, ⟨.dirty, 0, 0, false⟩)) ∧
      (fr.takenIn = .service → t.units = s.units.map fun p => (p.1,
        ⟨match p.2.state with | .retired c => .retired c | .erasing => .erasing | _ => .dirty,
          if fr.keepWear = true then p.2.wear else 0, p.2.holds, false⟩)) ∧
      (∀ c : Fin 4, t.eraseQueues[c] =
        (t.units.filter fun p => p.2.state.isDirty && (chanOf p.1 == c)).map (·.1))

/-- R152, R153, R76: ENTER_SERVICE with no hold, no move and no parked BIND makes the device SERVICE; LEAVE_SERVICE makes it
READY and evaluates the monitor on each of the four channels. -/
def Obligations.ServiceIsEnteredAndLeft : Prop :=
  ∀ (s : State) (f : Frame) (rest : List Frame),
    (s.Passes .enterService f rest → (∀ i : Fin 64, (s.holds[i]).entry = none) → (∀ c : Fin 4, s.moves[c] = none) →
      s.waiters = [] →
      exec .enterService s = .next { s.answered f rest (emptyRecord f 0) with device := .service }) ∧
    (s.Passes .leaveService f rest → exec .leaveService s = .next (((((({ s.answered f rest (emptyRecord f 0) with
      device := .ready } : State).evaluate 0).evaluate 1).evaluate 2).evaluate 3).settle none))

/-- R136: the device state changes at the events of its table and at no other; start-up runs exactly in STARTING and a
FORMAT exactly in FORMATTING. The premise is kept (CheckpointStateKept). -/
def Obligations.DeviceStateFollowsItsTable : Prop :=
  ∀ (i : Instr) (s t : State), DeviceInv s → CkptInv s → exec i s = .next t →
    DeviceInv t ∧ (t.device = s.device ∨ DeviceEdge i s.device t.device)

/-! ### Parameters, counters, open requests -/

/-- R173 and R178, whole, and what R179 says of CLEAR_COUNTERS: the refusals of the three requests, and what they report and
clear. -/
def Obligations.ReadersReportAndCountersClear : Prop :=
  ∀ (s : State) (f : Frame) (rest : List Frame),
    let sel := f.selector.toNat
    (s.Finds .getParameter f rest →
      (f.flags ≠ 0 → exec .getParameter s = .next (s.answered f rest (emptyRecord f 1))) ∧
      (f.flags = 0 → sel < 1 ∨ 5 < sel → exec .getParameter s = .next (s.answered f rest (emptyRecord f 1))) ∧
      (f.flags = 0 → ∀ v, (sel = 1 ∧ v = s.params.tHold) ∨ (sel = 2 ∧ v = s.params.eMax) ∨
          (sel = 3 ∧ v = s.params.wSpread) ∨ (sel = 4 ∧ v = s.params.cAuto) ∨ (sel = 5 ∧ v = s.params.sMin) →
        exec .getParameter s = .next (s.answered f rest ⟨f.tag, 14, 0, 0, v, 0, 0, 0⟩))) ∧
    (s.Finds .readCounter f rest →
      (f.flags ≠ 0 → exec .readCounter s = .next (s.answered f rest (emptyRecord f 1))) ∧
      (f.flags = 0 → sel < 1 ∨ 19 < sel → exec .readCounter s = .next (s.answered f rest (emptyRecord f 1))) ∧
      (f.flags = 0 → ∀ k : Fin 19, sel = k.val + 1 → exec .readCounter s = .next (s.answered f rest
        ⟨f.tag, 16, 0, 0, (s.counters[k]).extractLsb' 0 16, (s.counters[k]).extractLsb' 16 16, 0, 0⟩))) ∧
    (s.Finds .clearCounters f rest →
      (f.flags ≠ 0 → exec .clearCounters s = .next (s.answered f rest (emptyRecord f 1))) ∧
      (f.flags = 0 → s.device = .starting ∨ s.device = .formatting ∨ (∃ c, s.device = .failed c) →
        exec .clearCounters s = .next (s.answered f rest (emptyRecord f 3))) ∧
      (f.flags = 0 → s.device = .unformatted ∨ s.device = .ready ∨ s.device = .service →
        exec .clearCounters s = .next { s.answered f rest (emptyRecord f 0) with
          counters := Vector.replicate 19 0 }))

/-- R174, R76: SET_PARAMETER makes argument A the live value and reports the new and the previous value; a SET_PARAMETER of
W_spread then evaluates the monitor on each of the four channels. -/
def Obligations.SetParameterTakesEffect : Prop :=
  ∀ (s : State) (f : Frame) (rest : List Frame), s.Passes .setParameter f rest →
    let set (p : Params) (old : Word16) : State :=
      { s.answered f rest ⟨f.tag, 15, 0, 0, f.argA, old, 0, 0⟩ with params := p }
    (f.selector = 1 → exec .setParameter s = .next (set { s.params with tHold := f.argA } s.params.tHold)) ∧
    (f.selector = 2 → exec .setParameter s = .next (set { s.params with eMax := f.argA } s.params.eMax)) ∧
    (f.selector = 3 → exec .setParameter s = .next
      (((((set { s.params with wSpread := f.argA } s.params.wSpread).evaluate 0).evaluate 1).evaluate 2).evaluate
        3 |>.settle none)) ∧
    (f.selector = 4 → exec .setParameter s = .next (set { s.params with cAuto := f.argA } s.params.cAuto)) ∧
    (f.selector = 5 → exec .setParameter s = .next (set { s.params with sMin := f.argA } s.params.sMin))

/-- R171, R172: every live value is within its range, and so is the S_min that a running FORMAT will make live. Every step
keeps it. -/
def Obligations.ParametersStayInRange : Prop :=
  ∀ s t : State, ParamInv s → step s = .next t → ParamInv t

/-- R156, R157, R116: the open tags are the tags of the requests that wait, each waiting in one place: in the intake list,
parked, or as an accepted move, checkpoint, restart or FORMAT. Every step keeps it in a lawful state. -/
def Obligations.OpenTagsAreHeldOnce : Prop :=
  ∀ s t : State, s.lawful = true → DeviceInv s → CkptInv s → TagInv s → step s = .next t → TagInv t
end

