-- ==== Sys2Proof/Laws/State.lean ====
section
/-! SUPPORT. One lemma per field per field update of the state, true by `rfl`, so that no later proof unfolds an
update. -/
namespace Sys2Proof.Machine

@[simp] theorem State.setPending_pending (s : State) (v : List Instr) : (s.setPending v).pending = v := rfl
@[simp] theorem State.setPending_resetLow (s : State) (v : List Instr) : (s.setPending v).resetLow = s.resetLow := rfl
@[simp] theorem State.setPending_miso (s : State) (v : List Instr) : (s.setPending v).miso = s.miso := rfl
@[simp] theorem State.setPending_tick (s : State) (v : List Instr) : (s.setPending v).tick = s.tick := rfl
@[simp] theorem State.setPending_device (s : State) (v : List Instr) : (s.setPending v).device = s.device := rfl
@[simp] theorem State.setPending_startup (s : State) (v : List Instr) : (s.setPending v).startup = s.startup := rfl
@[simp] theorem State.setPending_formatRec (s : State) (v : List Instr) : (s.setPending v).formatRec = s.formatRec := rfl
@[simp] theorem State.setPending_params (s : State) (v : List Instr) : (s.setPending v).params = s.params := rfl
@[simp] theorem State.setPending_counters (s : State) (v : List Instr) : (s.setPending v).counters = s.counters := rfl
@[simp] theorem State.setPending_map (s : State) (v : List Instr) : (s.setPending v).map = s.map := rfl
@[simp] theorem State.setPending_waiters (s : State) (v : List Instr) : (s.setPending v).waiters = s.waiters := rfl
@[simp] theorem State.setPending_units (s : State) (v : List Instr) : (s.setPending v).units = s.units := rfl
@[simp] theorem State.setPending_eraseQueues (s : State) (v : List Instr) : (s.setPending v).eraseQueues = s.eraseQueues := rfl
@[simp] theorem State.setPending_holds (s : State) (v : List Instr) : (s.setPending v).holds = s.holds := rfl
@[simp] theorem State.setPending_moves (s : State) (v : List Instr) : (s.setPending v).moves = s.moves := rfl
@[simp] theorem State.setPending_ckpt (s : State) (v : List Instr) : (s.setPending v).ckpt = s.ckpt := rfl
@[simp] theorem State.setPending_channels (s : State) (v : List Instr) : (s.setPending v).channels = s.channels := rfl
@[simp] theorem State.setPending_link (s : State) (v : List Instr) : (s.setPending v).link = s.link := rfl
@[simp] theorem State.setResetLow_pending (s : State) (v : Bool) : (s.setResetLow v).pending = s.pending := rfl
@[simp] theorem State.setResetLow_resetLow (s : State) (v : Bool) : (s.setResetLow v).resetLow = v := rfl
@[simp] theorem State.setResetLow_miso (s : State) (v : Bool) : (s.setResetLow v).miso = s.miso := rfl
@[simp] theorem State.setResetLow_tick (s : State) (v : Bool) : (s.setResetLow v).tick = s.tick := rfl
@[simp] theorem State.setResetLow_device (s : State) (v : Bool) : (s.setResetLow v).device = s.device := rfl
@[simp] theorem State.setResetLow_startup (s : State) (v : Bool) : (s.setResetLow v).startup = s.startup := rfl
@[simp] theorem State.setResetLow_formatRec (s : State) (v : Bool) : (s.setResetLow v).formatRec = s.formatRec := rfl
@[simp] theorem State.setResetLow_params (s : State) (v : Bool) : (s.setResetLow v).params = s.params := rfl
@[simp] theorem State.setResetLow_counters (s : State) (v : Bool) : (s.setResetLow v).counters = s.counters := rfl
@[simp] theorem State.setResetLow_map (s : State) (v : Bool) : (s.setResetLow v).map = s.map := rfl
@[simp] theorem State.setResetLow_waiters (s : State) (v : Bool) : (s.setResetLow v).waiters = s.waiters := rfl
@[simp] theorem State.setResetLow_units (s : State) (v : Bool) : (s.setResetLow v).units = s.units := rfl
@[simp] theorem State.setResetLow_eraseQueues (s : State) (v : Bool) : (s.setResetLow v).eraseQueues = s.eraseQueues := rfl
@[simp] theorem State.setResetLow_holds (s : State) (v : Bool) : (s.setResetLow v).holds = s.holds := rfl
@[simp] theorem State.setResetLow_moves (s : State) (v : Bool) : (s.setResetLow v).moves = s.moves := rfl
@[simp] theorem State.setResetLow_ckpt (s : State) (v : Bool) : (s.setResetLow v).ckpt = s.ckpt := rfl
@[simp] theorem State.setResetLow_channels (s : State) (v : Bool) : (s.setResetLow v).channels = s.channels := rfl
@[simp] theorem State.setResetLow_link (s : State) (v : Bool) : (s.setResetLow v).link = s.link := rfl
@[simp] theorem State.setMiso_pending (s : State) (v : List Byte) : (s.setMiso v).pending = s.pending := rfl
@[simp] theorem State.setMiso_resetLow (s : State) (v : List Byte) : (s.setMiso v).resetLow = s.resetLow := rfl
@[simp] theorem State.setMiso_miso (s : State) (v : List Byte) : (s.setMiso v).miso = v := rfl
@[simp] theorem State.setMiso_tick (s : State) (v : List Byte) : (s.setMiso v).tick = s.tick := rfl
@[simp] theorem State.setMiso_device (s : State) (v : List Byte) : (s.setMiso v).device = s.device := rfl
@[simp] theorem State.setMiso_startup (s : State) (v : List Byte) : (s.setMiso v).startup = s.startup := rfl
@[simp] theorem State.setMiso_formatRec (s : State) (v : List Byte) : (s.setMiso v).formatRec = s.formatRec := rfl
@[simp] theorem State.setMiso_params (s : State) (v : List Byte) : (s.setMiso v).params = s.params := rfl
@[simp] theorem State.setMiso_counters (s : State) (v : List Byte) : (s.setMiso v).counters = s.counters := rfl
@[simp] theorem State.setMiso_map (s : State) (v : List Byte) : (s.setMiso v).map = s.map := rfl
@[simp] theorem State.setMiso_waiters (s : State) (v : List Byte) : (s.setMiso v).waiters = s.waiters := rfl
@[simp] theorem State.setMiso_units (s : State) (v : List Byte) : (s.setMiso v).units = s.units := rfl
@[simp] theorem State.setMiso_eraseQueues (s : State) (v : List Byte) : (s.setMiso v).eraseQueues = s.eraseQueues := rfl
@[simp] theorem State.setMiso_holds (s : State) (v : List Byte) : (s.setMiso v).holds = s.holds := rfl
@[simp] theorem State.setMiso_moves (s : State) (v : List Byte) : (s.setMiso v).moves = s.moves := rfl
@[simp] theorem State.setMiso_ckpt (s : State) (v : List Byte) : (s.setMiso v).ckpt = s.ckpt := rfl
@[simp] theorem State.setMiso_channels (s : State) (v : List Byte) : (s.setMiso v).channels = s.channels := rfl
@[simp] theorem State.setMiso_link (s : State) (v : List Byte) : (s.setMiso v).link = s.link := rfl
@[simp] theorem State.setTick_pending (s : State) (v : Word32) : (s.setTick v).pending = s.pending := rfl
@[simp] theorem State.setTick_resetLow (s : State) (v : Word32) : (s.setTick v).resetLow = s.resetLow := rfl
@[simp] theorem State.setTick_miso (s : State) (v : Word32) : (s.setTick v).miso = s.miso := rfl
@[simp] theorem State.setTick_tick (s : State) (v : Word32) : (s.setTick v).tick = v := rfl
@[simp] theorem State.setTick_device (s : State) (v : Word32) : (s.setTick v).device = s.device := rfl
@[simp] theorem State.setTick_startup (s : State) (v : Word32) : (s.setTick v).startup = s.startup := rfl
@[simp] theorem State.setTick_formatRec (s : State) (v : Word32) : (s.setTick v).formatRec = s.formatRec := rfl
@[simp] theorem State.setTick_params (s : State) (v : Word32) : (s.setTick v).params = s.params := rfl
@[simp] theorem State.setTick_counters (s : State) (v : Word32) : (s.setTick v).counters = s.counters := rfl
@[simp] theorem State.setTick_map (s : State) (v : Word32) : (s.setTick v).map = s.map := rfl
@[simp] theorem State.setTick_waiters (s : State) (v : Word32) : (s.setTick v).waiters = s.waiters := rfl
@[simp] theorem State.setTick_units (s : State) (v : Word32) : (s.setTick v).units = s.units := rfl
@[simp] theorem State.setTick_eraseQueues (s : State) (v : Word32) : (s.setTick v).eraseQueues = s.eraseQueues := rfl
@[simp] theorem State.setTick_holds (s : State) (v : Word32) : (s.setTick v).holds = s.holds := rfl
@[simp] theorem State.setTick_moves (s : State) (v : Word32) : (s.setTick v).moves = s.moves := rfl
@[simp] theorem State.setTick_ckpt (s : State) (v : Word32) : (s.setTick v).ckpt = s.ckpt := rfl
@[simp] theorem State.setTick_channels (s : State) (v : Word32) : (s.setTick v).channels = s.channels := rfl
@[simp] theorem State.setTick_link (s : State) (v : Word32) : (s.setTick v).link = s.link := rfl
@[simp] theorem State.setDevice_pending (s : State) (v : DeviceState) : (s.setDevice v).pending = s.pending := rfl
@[simp] theorem State.setDevice_resetLow (s : State) (v : DeviceState) : (s.setDevice v).resetLow = s.resetLow := rfl
@[simp] theorem State.setDevice_miso (s : State) (v : DeviceState) : (s.setDevice v).miso = s.miso := rfl
@[simp] theorem State.setDevice_tick (s : State) (v : DeviceState) : (s.setDevice v).tick = s.tick := rfl
@[simp] theorem State.setDevice_device (s : State) (v : DeviceState) : (s.setDevice v).device = v := rfl
@[simp] theorem State.setDevice_startup (s : State) (v : DeviceState) : (s.setDevice v).startup = s.startup := rfl
@[simp] theorem State.setDevice_formatRec (s : State) (v : DeviceState) : (s.setDevice v).formatRec = s.formatRec := rfl
@[simp] theorem State.setDevice_params (s : State) (v : DeviceState) : (s.setDevice v).params = s.params := rfl
@[simp] theorem State.setDevice_counters (s : State) (v : DeviceState) : (s.setDevice v).counters = s.counters := rfl
@[simp] theorem State.setDevice_map (s : State) (v : DeviceState) : (s.setDevice v).map = s.map := rfl
@[simp] theorem State.setDevice_waiters (s : State) (v : DeviceState) : (s.setDevice v).waiters = s.waiters := rfl
@[simp] theorem State.setDevice_units (s : State) (v : DeviceState) : (s.setDevice v).units = s.units := rfl
@[simp] theorem State.setDevice_eraseQueues (s : State) (v : DeviceState) : (s.setDevice v).eraseQueues = s.eraseQueues := rfl
@[simp] theorem State.setDevice_holds (s : State) (v : DeviceState) : (s.setDevice v).holds = s.holds := rfl
@[simp] theorem State.setDevice_moves (s : State) (v : DeviceState) : (s.setDevice v).moves = s.moves := rfl
@[simp] theorem State.setDevice_ckpt (s : State) (v : DeviceState) : (s.setDevice v).ckpt = s.ckpt := rfl
@[simp] theorem State.setDevice_channels (s : State) (v : DeviceState) : (s.setDevice v).channels = s.channels := rfl
@[simp] theorem State.setDevice_link (s : State) (v : DeviceState) : (s.setDevice v).link = s.link := rfl
@[simp] theorem State.setStartup_pending (s : State) (v : Startup) : (s.setStartup v).pending = s.pending := rfl
@[simp] theorem State.setStartup_resetLow (s : State) (v : Startup) : (s.setStartup v).resetLow = s.resetLow := rfl
@[simp] theorem State.setStartup_miso (s : State) (v : Startup) : (s.setStartup v).miso = s.miso := rfl
@[simp] theorem State.setStartup_tick (s : State) (v : Startup) : (s.setStartup v).tick = s.tick := rfl
@[simp] theorem State.setStartup_device (s : State) (v : Startup) : (s.setStartup v).device = s.device := rfl
@[simp] theorem State.setStartup_startup (s : State) (v : Startup) : (s.setStartup v).startup = v := rfl
@[simp] theorem State.setStartup_formatRec (s : State) (v : Startup) : (s.setStartup v).formatRec = s.formatRec := rfl
@[simp] theorem State.setStartup_params (s : State) (v : Startup) : (s.setStartup v).params = s.params := rfl
@[simp] theorem State.setStartup_counters (s : State) (v : Startup) : (s.setStartup v).counters = s.counters := rfl
@[simp] theorem State.setStartup_map (s : State) (v : Startup) : (s.setStartup v).map = s.map := rfl
@[simp] theorem State.setStartup_waiters (s : State) (v : Startup) : (s.setStartup v).waiters = s.waiters := rfl
@[simp] theorem State.setStartup_units (s : State) (v : Startup) : (s.setStartup v).units = s.units := rfl
@[simp] theorem State.setStartup_eraseQueues (s : State) (v : Startup) : (s.setStartup v).eraseQueues = s.eraseQueues := rfl
@[simp] theorem State.setStartup_holds (s : State) (v : Startup) : (s.setStartup v).holds = s.holds := rfl
@[simp] theorem State.setStartup_moves (s : State) (v : Startup) : (s.setStartup v).moves = s.moves := rfl
@[simp] theorem State.setStartup_ckpt (s : State) (v : Startup) : (s.setStartup v).ckpt = s.ckpt := rfl
@[simp] theorem State.setStartup_channels (s : State) (v : Startup) : (s.setStartup v).channels = s.channels := rfl
@[simp] theorem State.setStartup_link (s : State) (v : Startup) : (s.setStartup v).link = s.link := rfl
@[simp] theorem State.setFormatRec_pending (s : State) (v : Option FormatRec) : (s.setFormatRec v).pending = s.pending := rfl
@[simp] theorem State.setFormatRec_resetLow (s : State) (v : Option FormatRec) : (s.setFormatRec v).resetLow = s.resetLow := rfl
@[simp] theorem State.setFormatRec_miso (s : State) (v : Option FormatRec) : (s.setFormatRec v).miso = s.miso := rfl
@[simp] theorem State.setFormatRec_tick (s : State) (v : Option FormatRec) : (s.setFormatRec v).tick = s.tick := rfl
@[simp] theorem State.setFormatRec_device (s : State) (v : Option FormatRec) : (s.setFormatRec v).device = s.device := rfl
@[simp] theorem State.setFormatRec_startup (s : State) (v : Option FormatRec) : (s.setFormatRec v).startup = s.startup := rfl
@[simp] theorem State.setFormatRec_formatRec (s : State) (v : Option FormatRec) : (s.setFormatRec v).formatRec = v := rfl
@[simp] theorem State.setFormatRec_params (s : State) (v : Option FormatRec) : (s.setFormatRec v).params = s.params := rfl
@[simp] theorem State.setFormatRec_counters (s : State) (v : Option FormatRec) : (s.setFormatRec v).counters = s.counters := rfl
@[simp] theorem State.setFormatRec_map (s : State) (v : Option FormatRec) : (s.setFormatRec v).map = s.map := rfl
@[simp] theorem State.setFormatRec_waiters (s : State) (v : Option FormatRec) : (s.setFormatRec v).waiters = s.waiters := rfl
@[simp] theorem State.setFormatRec_units (s : State) (v : Option FormatRec) : (s.setFormatRec v).units = s.units := rfl
@[simp] theorem State.setFormatRec_eraseQueues (s : State) (v : Option FormatRec) : (s.setFormatRec v).eraseQueues = s.eraseQueues := rfl
@[simp] theorem State.setFormatRec_holds (s : State) (v : Option FormatRec) : (s.setFormatRec v).holds = s.holds := rfl
@[simp] theorem State.setFormatRec_moves (s : State) (v : Option FormatRec) : (s.setFormatRec v).moves = s.moves := rfl
@[simp] theorem State.setFormatRec_ckpt (s : State) (v : Option FormatRec) : (s.setFormatRec v).ckpt = s.ckpt := rfl
@[simp] theorem State.setFormatRec_channels (s : State) (v : Option FormatRec) : (s.setFormatRec v).channels = s.channels := rfl
@[simp] theorem State.setFormatRec_link (s : State) (v : Option FormatRec) : (s.setFormatRec v).link = s.link := rfl
@[simp] theorem State.setParams_pending (s : State) (v : Params) : (s.setParams v).pending = s.pending := rfl
@[simp] theorem State.setParams_resetLow (s : State) (v : Params) : (s.setParams v).resetLow = s.resetLow := rfl
@[simp] theorem State.setParams_miso (s : State) (v : Params) : (s.setParams v).miso = s.miso := rfl
@[simp] theorem State.setParams_tick (s : State) (v : Params) : (s.setParams v).tick = s.tick := rfl
@[simp] theorem State.setParams_device (s : State) (v : Params) : (s.setParams v).device = s.device := rfl
@[simp] theorem State.setParams_startup (s : State) (v : Params) : (s.setParams v).startup = s.startup := rfl
@[simp] theorem State.setParams_formatRec (s : State) (v : Params) : (s.setParams v).formatRec = s.formatRec := rfl
@[simp] theorem State.setParams_params (s : State) (v : Params) : (s.setParams v).params = v := rfl
@[simp] theorem State.setParams_counters (s : State) (v : Params) : (s.setParams v).counters = s.counters := rfl
@[simp] theorem State.setParams_map (s : State) (v : Params) : (s.setParams v).map = s.map := rfl
@[simp] theorem State.setParams_waiters (s : State) (v : Params) : (s.setParams v).waiters = s.waiters := rfl
@[simp] theorem State.setParams_units (s : State) (v : Params) : (s.setParams v).units = s.units := rfl
@[simp] theorem State.setParams_eraseQueues (s : State) (v : Params) : (s.setParams v).eraseQueues = s.eraseQueues := rfl
@[simp] theorem State.setParams_holds (s : State) (v : Params) : (s.setParams v).holds = s.holds := rfl
@[simp] theorem State.setParams_moves (s : State) (v : Params) : (s.setParams v).moves = s.moves := rfl
@[simp] theorem State.setParams_ckpt (s : State) (v : Params) : (s.setParams v).ckpt = s.ckpt := rfl
@[simp] theorem State.setParams_channels (s : State) (v : Params) : (s.setParams v).channels = s.channels := rfl
@[simp] theorem State.setParams_link (s : State) (v : Params) : (s.setParams v).link = s.link := rfl
@[simp] theorem State.setCounters_pending (s : State) (v : Vector Word32 19) : (s.setCounters v).pending = s.pending := rfl
@[simp] theorem State.setCounters_resetLow (s : State) (v : Vector Word32 19) : (s.setCounters v).resetLow = s.resetLow := rfl
@[simp] theorem State.setCounters_miso (s : State) (v : Vector Word32 19) : (s.setCounters v).miso = s.miso := rfl
@[simp] theorem State.setCounters_tick (s : State) (v : Vector Word32 19) : (s.setCounters v).tick = s.tick := rfl
@[simp] theorem State.setCounters_device (s : State) (v : Vector Word32 19) : (s.setCounters v).device = s.device := rfl
@[simp] theorem State.setCounters_startup (s : State) (v : Vector Word32 19) : (s.setCounters v).startup = s.startup := rfl
@[simp] theorem State.setCounters_formatRec (s : State) (v : Vector Word32 19) : (s.setCounters v).formatRec = s.formatRec := rfl
@[simp] theorem State.setCounters_params (s : State) (v : Vector Word32 19) : (s.setCounters v).params = s.params := rfl
@[simp] theorem State.setCounters_counters (s : State) (v : Vector Word32 19) : (s.setCounters v).counters = v := rfl
@[simp] theorem State.setCounters_map (s : State) (v : Vector Word32 19) : (s.setCounters v).map = s.map := rfl
@[simp] theorem State.setCounters_waiters (s : State) (v : Vector Word32 19) : (s.setCounters v).waiters = s.waiters := rfl
@[simp] theorem State.setCounters_units (s : State) (v : Vector Word32 19) : (s.setCounters v).units = s.units := rfl
@[simp] theorem State.setCounters_eraseQueues (s : State) (v : Vector Word32 19) : (s.setCounters v).eraseQueues = s.eraseQueues := rfl
@[simp] theorem State.setCounters_holds (s : State) (v : Vector Word32 19) : (s.setCounters v).holds = s.holds := rfl
@[simp] theorem State.setCounters_moves (s : State) (v : Vector Word32 19) : (s.setCounters v).moves = s.moves := rfl
@[simp] theorem State.setCounters_ckpt (s : State) (v : Vector Word32 19) : (s.setCounters v).ckpt = s.ckpt := rfl
@[simp] theorem State.setCounters_channels (s : State) (v : Vector Word32 19) : (s.setCounters v).channels = s.channels := rfl
@[simp] theorem State.setCounters_link (s : State) (v : Vector Word32 19) : (s.setCounters v).link = s.link := rfl
@[simp] theorem State.setMap_pending (s : State) (v : List LogicalRec) : (s.setMap v).pending = s.pending := rfl
@[simp] theorem State.setMap_resetLow (s : State) (v : List LogicalRec) : (s.setMap v).resetLow = s.resetLow := rfl
@[simp] theorem State.setMap_miso (s : State) (v : List LogicalRec) : (s.setMap v).miso = s.miso := rfl
@[simp] theorem State.setMap_tick (s : State) (v : List LogicalRec) : (s.setMap v).tick = s.tick := rfl
@[simp] theorem State.setMap_device (s : State) (v : List LogicalRec) : (s.setMap v).device = s.device := rfl
@[simp] theorem State.setMap_startup (s : State) (v : List LogicalRec) : (s.setMap v).startup = s.startup := rfl
@[simp] theorem State.setMap_formatRec (s : State) (v : List LogicalRec) : (s.setMap v).formatRec = s.formatRec := rfl
@[simp] theorem State.setMap_params (s : State) (v : List LogicalRec) : (s.setMap v).params = s.params := rfl
@[simp] theorem State.setMap_counters (s : State) (v : List LogicalRec) : (s.setMap v).counters = s.counters := rfl
@[simp] theorem State.setMap_map (s : State) (v : List LogicalRec) : (s.setMap v).map = v := rfl
@[simp] theorem State.setMap_waiters (s : State) (v : List LogicalRec) : (s.setMap v).waiters = s.waiters := rfl
@[simp] theorem State.setMap_units (s : State) (v : List LogicalRec) : (s.setMap v).units = s.units := rfl
@[simp] theorem State.setMap_eraseQueues (s : State) (v : List LogicalRec) : (s.setMap v).eraseQueues = s.eraseQueues := rfl
@[simp] theorem State.setMap_holds (s : State) (v : List LogicalRec) : (s.setMap v).holds = s.holds := rfl
@[simp] theorem State.setMap_moves (s : State) (v : List LogicalRec) : (s.setMap v).moves = s.moves := rfl
@[simp] theorem State.setMap_ckpt (s : State) (v : List LogicalRec) : (s.setMap v).ckpt = s.ckpt := rfl
@[simp] theorem State.setMap_channels (s : State) (v : List LogicalRec) : (s.setMap v).channels = s.channels := rfl
@[simp] theorem State.setMap_link (s : State) (v : List LogicalRec) : (s.setMap v).link = s.link := rfl
@[simp] theorem State.setWaiters_pending (s : State) (v : List Waiter) : (s.setWaiters v).pending = s.pending := rfl
@[simp] theorem State.setWaiters_resetLow (s : State) (v : List Waiter) : (s.setWaiters v).resetLow = s.resetLow := rfl
@[simp] theorem State.setWaiters_miso (s : State) (v : List Waiter) : (s.setWaiters v).miso = s.miso := rfl
@[simp] theorem State.setWaiters_tick (s : State) (v : List Waiter) : (s.setWaiters v).tick = s.tick := rfl
@[simp] theorem State.setWaiters_device (s : State) (v : List Waiter) : (s.setWaiters v).device = s.device := rfl
@[simp] theorem State.setWaiters_startup (s : State) (v : List Waiter) : (s.setWaiters v).startup = s.startup := rfl
@[simp] theorem State.setWaiters_formatRec (s : State) (v : List Waiter) : (s.setWaiters v).formatRec = s.formatRec := rfl
@[simp] theorem State.setWaiters_params (s : State) (v : List Waiter) : (s.setWaiters v).params = s.params := rfl
@[simp] theorem State.setWaiters_counters (s : State) (v : List Waiter) : (s.setWaiters v).counters = s.counters := rfl
@[simp] theorem State.setWaiters_map (s : State) (v : List Waiter) : (s.setWaiters v).map = s.map := rfl
@[simp] theorem State.setWaiters_waiters (s : State) (v : List Waiter) : (s.setWaiters v).waiters = v := rfl
@[simp] theorem State.setWaiters_units (s : State) (v : List Waiter) : (s.setWaiters v).units = s.units := rfl
@[simp] theorem State.setWaiters_eraseQueues (s : State) (v : List Waiter) : (s.setWaiters v).eraseQueues = s.eraseQueues := rfl
@[simp] theorem State.setWaiters_holds (s : State) (v : List Waiter) : (s.setWaiters v).holds = s.holds := rfl
@[simp] theorem State.setWaiters_moves (s : State) (v : List Waiter) : (s.setWaiters v).moves = s.moves := rfl
@[simp] theorem State.setWaiters_ckpt (s : State) (v : List Waiter) : (s.setWaiters v).ckpt = s.ckpt := rfl
@[simp] theorem State.setWaiters_channels (s : State) (v : List Waiter) : (s.setWaiters v).channels = s.channels := rfl
@[simp] theorem State.setWaiters_link (s : State) (v : List Waiter) : (s.setWaiters v).link = s.link := rfl
@[simp] theorem State.setUnits_pending (s : State) (v : List (Nat × UnitRec)) : (s.setUnits v).pending = s.pending := rfl
@[simp] theorem State.setUnits_resetLow (s : State) (v : List (Nat × UnitRec)) : (s.setUnits v).resetLow = s.resetLow := rfl
@[simp] theorem State.setUnits_miso (s : State) (v : List (Nat × UnitRec)) : (s.setUnits v).miso = s.miso := rfl
@[simp] theorem State.setUnits_tick (s : State) (v : List (Nat × UnitRec)) : (s.setUnits v).tick = s.tick := rfl
@[simp] theorem State.setUnits_device (s : State) (v : List (Nat × UnitRec)) : (s.setUnits v).device = s.device := rfl
@[simp] theorem State.setUnits_startup (s : State) (v : List (Nat × UnitRec)) : (s.setUnits v).startup = s.startup := rfl
@[simp] theorem State.setUnits_formatRec (s : State) (v : List (Nat × UnitRec)) : (s.setUnits v).formatRec = s.formatRec := rfl
@[simp] theorem State.setUnits_params (s : State) (v : List (Nat × UnitRec)) : (s.setUnits v).params = s.params := rfl
@[simp] theorem State.setUnits_counters (s : State) (v : List (Nat × UnitRec)) : (s.setUnits v).counters = s.counters := rfl
@[simp] theorem State.setUnits_map (s : State) (v : List (Nat × UnitRec)) : (s.setUnits v).map = s.map := rfl
@[simp] theorem State.setUnits_waiters (s : State) (v : List (Nat × UnitRec)) : (s.setUnits v).waiters = s.waiters := rfl
@[simp] theorem State.setUnits_units (s : State) (v : List (Nat × UnitRec)) : (s.setUnits v).units = v := rfl
@[simp] theorem State.setUnits_eraseQueues (s : State) (v : List (Nat × UnitRec)) : (s.setUnits v).eraseQueues = s.eraseQueues := rfl
@[simp] theorem State.setUnits_holds (s : State) (v : List (Nat × UnitRec)) : (s.setUnits v).holds = s.holds := rfl
@[simp] theorem State.setUnits_moves (s : State) (v : List (Nat × UnitRec)) : (s.setUnits v).moves = s.moves := rfl
@[simp] theorem State.setUnits_ckpt (s : State) (v : List (Nat × UnitRec)) : (s.setUnits v).ckpt = s.ckpt := rfl
@[simp] theorem State.setUnits_channels (s : State) (v : List (Nat × UnitRec)) : (s.setUnits v).channels = s.channels := rfl
@[simp] theorem State.setUnits_link (s : State) (v : List (Nat × UnitRec)) : (s.setUnits v).link = s.link := rfl
@[simp] theorem State.setEraseQueues_pending (s : State) (v : Vector (List Nat) 4) : (s.setEraseQueues v).pending = s.pending := rfl
@[simp] theorem State.setEraseQueues_resetLow (s : State) (v : Vector (List Nat) 4) : (s.setEraseQueues v).resetLow = s.resetLow := rfl
@[simp] theorem State.setEraseQueues_miso (s : State) (v : Vector (List Nat) 4) : (s.setEraseQueues v).miso = s.miso := rfl
@[simp] theorem State.setEraseQueues_tick (s : State) (v : Vector (List Nat) 4) : (s.setEraseQueues v).tick = s.tick := rfl
@[simp] theorem State.setEraseQueues_device (s : State) (v : Vector (List Nat) 4) : (s.setEraseQueues v).device = s.device := rfl
@[simp] theorem State.setEraseQueues_startup (s : State) (v : Vector (List Nat) 4) : (s.setEraseQueues v).startup = s.startup := rfl
@[simp] theorem State.setEraseQueues_formatRec (s : State) (v : Vector (List Nat) 4) : (s.setEraseQueues v).formatRec = s.formatRec := rfl
@[simp] theorem State.setEraseQueues_params (s : State) (v : Vector (List Nat) 4) : (s.setEraseQueues v).params = s.params := rfl
@[simp] theorem State.setEraseQueues_counters (s : State) (v : Vector (List Nat) 4) : (s.setEraseQueues v).counters = s.counters := rfl
@[simp] theorem State.setEraseQueues_map (s : State) (v : Vector (List Nat) 4) : (s.setEraseQueues v).map = s.map := rfl
@[simp] theorem State.setEraseQueues_waiters (s : State) (v : Vector (List Nat) 4) : (s.setEraseQueues v).waiters = s.waiters := rfl
@[simp] theorem State.setEraseQueues_units (s : State) (v : Vector (List Nat) 4) : (s.setEraseQueues v).units = s.units := rfl
@[simp] theorem State.setEraseQueues_eraseQueues (s : State) (v : Vector (List Nat) 4) : (s.setEraseQueues v).eraseQueues = v := rfl
@[simp] theorem State.setEraseQueues_holds (s : State) (v : Vector (List Nat) 4) : (s.setEraseQueues v).holds = s.holds := rfl
@[simp] theorem State.setEraseQueues_moves (s : State) (v : Vector (List Nat) 4) : (s.setEraseQueues v).moves = s.moves := rfl
@[simp] theorem State.setEraseQueues_ckpt (s : State) (v : Vector (List Nat) 4) : (s.setEraseQueues v).ckpt = s.ckpt := rfl
@[simp] theorem State.setEraseQueues_channels (s : State) (v : Vector (List Nat) 4) : (s.setEraseQueues v).channels = s.channels := rfl
@[simp] theorem State.setEraseQueues_link (s : State) (v : Vector (List Nat) 4) : (s.setEraseQueues v).link = s.link := rfl
@[simp] theorem State.setHolds_pending (s : State) (v : Vector HoldSlot 64) : (s.setHolds v).pending = s.pending := rfl
@[simp] theorem State.setHolds_resetLow (s : State) (v : Vector HoldSlot 64) : (s.setHolds v).resetLow = s.resetLow := rfl
@[simp] theorem State.setHolds_miso (s : State) (v : Vector HoldSlot 64) : (s.setHolds v).miso = s.miso := rfl
@[simp] theorem State.setHolds_tick (s : State) (v : Vector HoldSlot 64) : (s.setHolds v).tick = s.tick := rfl
@[simp] theorem State.setHolds_device (s : State) (v : Vector HoldSlot 64) : (s.setHolds v).device = s.device := rfl
@[simp] theorem State.setHolds_startup (s : State) (v : Vector HoldSlot 64) : (s.setHolds v).startup = s.startup := rfl
@[simp] theorem State.setHolds_formatRec (s : State) (v : Vector HoldSlot 64) : (s.setHolds v).formatRec = s.formatRec := rfl
@[simp] theorem State.setHolds_params (s : State) (v : Vector HoldSlot 64) : (s.setHolds v).params = s.params := rfl
@[simp] theorem State.setHolds_counters (s : State) (v : Vector HoldSlot 64) : (s.setHolds v).counters = s.counters := rfl
@[simp] theorem State.setHolds_map (s : State) (v : Vector HoldSlot 64) : (s.setHolds v).map = s.map := rfl
@[simp] theorem State.setHolds_waiters (s : State) (v : Vector HoldSlot 64) : (s.setHolds v).waiters = s.waiters := rfl
@[simp] theorem State.setHolds_units (s : State) (v : Vector HoldSlot 64) : (s.setHolds v).units = s.units := rfl
@[simp] theorem State.setHolds_eraseQueues (s : State) (v : Vector HoldSlot 64) : (s.setHolds v).eraseQueues = s.eraseQueues := rfl
@[simp] theorem State.setHolds_holds (s : State) (v : Vector HoldSlot 64) : (s.setHolds v).holds = v := rfl
@[simp] theorem State.setHolds_moves (s : State) (v : Vector HoldSlot 64) : (s.setHolds v).moves = s.moves := rfl
@[simp] theorem State.setHolds_ckpt (s : State) (v : Vector HoldSlot 64) : (s.setHolds v).ckpt = s.ckpt := rfl
@[simp] theorem State.setHolds_channels (s : State) (v : Vector HoldSlot 64) : (s.setHolds v).channels = s.channels := rfl
@[simp] theorem State.setHolds_link (s : State) (v : Vector HoldSlot 64) : (s.setHolds v).link = s.link := rfl
@[simp] theorem State.setMoves_pending (s : State) (v : Vector (Option Move) 4) : (s.setMoves v).pending = s.pending := rfl
@[simp] theorem State.setMoves_resetLow (s : State) (v : Vector (Option Move) 4) : (s.setMoves v).resetLow = s.resetLow := rfl
@[simp] theorem State.setMoves_miso (s : State) (v : Vector (Option Move) 4) : (s.setMoves v).miso = s.miso := rfl
@[simp] theorem State.setMoves_tick (s : State) (v : Vector (Option Move) 4) : (s.setMoves v).tick = s.tick := rfl
@[simp] theorem State.setMoves_device (s : State) (v : Vector (Option Move) 4) : (s.setMoves v).device = s.device := rfl
@[simp] theorem State.setMoves_startup (s : State) (v : Vector (Option Move) 4) : (s.setMoves v).startup = s.startup := rfl
@[simp] theorem State.setMoves_formatRec (s : State) (v : Vector (Option Move) 4) : (s.setMoves v).formatRec = s.formatRec := rfl
@[simp] theorem State.setMoves_params (s : State) (v : Vector (Option Move) 4) : (s.setMoves v).params = s.params := rfl
@[simp] theorem State.setMoves_counters (s : State) (v : Vector (Option Move) 4) : (s.setMoves v).counters = s.counters := rfl
@[simp] theorem State.setMoves_map (s : State) (v : Vector (Option Move) 4) : (s.setMoves v).map = s.map := rfl
@[simp] theorem State.setMoves_waiters (s : State) (v : Vector (Option Move) 4) : (s.setMoves v).waiters = s.waiters := rfl
@[simp] theorem State.setMoves_units (s : State) (v : Vector (Option Move) 4) : (s.setMoves v).units = s.units := rfl
@[simp] theorem State.setMoves_eraseQueues (s : State) (v : Vector (Option Move) 4) : (s.setMoves v).eraseQueues = s.eraseQueues := rfl
@[simp] theorem State.setMoves_holds (s : State) (v : Vector (Option Move) 4) : (s.setMoves v).holds = s.holds := rfl
@[simp] theorem State.setMoves_moves (s : State) (v : Vector (Option Move) 4) : (s.setMoves v).moves = v := rfl
@[simp] theorem State.setMoves_ckpt (s : State) (v : Vector (Option Move) 4) : (s.setMoves v).ckpt = s.ckpt := rfl
@[simp] theorem State.setMoves_channels (s : State) (v : Vector (Option Move) 4) : (s.setMoves v).channels = s.channels := rfl
@[simp] theorem State.setMoves_link (s : State) (v : Vector (Option Move) 4) : (s.setMoves v).link = s.link := rfl
@[simp] theorem State.setCkpt_pending (s : State) (v : Ckpt) : (s.setCkpt v).pending = s.pending := rfl
@[simp] theorem State.setCkpt_resetLow (s : State) (v : Ckpt) : (s.setCkpt v).resetLow = s.resetLow := rfl
@[simp] theorem State.setCkpt_miso (s : State) (v : Ckpt) : (s.setCkpt v).miso = s.miso := rfl
@[simp] theorem State.setCkpt_tick (s : State) (v : Ckpt) : (s.setCkpt v).tick = s.tick := rfl
@[simp] theorem State.setCkpt_device (s : State) (v : Ckpt) : (s.setCkpt v).device = s.device := rfl
@[simp] theorem State.setCkpt_startup (s : State) (v : Ckpt) : (s.setCkpt v).startup = s.startup := rfl
@[simp] theorem State.setCkpt_formatRec (s : State) (v : Ckpt) : (s.setCkpt v).formatRec = s.formatRec := rfl
@[simp] theorem State.setCkpt_params (s : State) (v : Ckpt) : (s.setCkpt v).params = s.params := rfl
@[simp] theorem State.setCkpt_counters (s : State) (v : Ckpt) : (s.setCkpt v).counters = s.counters := rfl
@[simp] theorem State.setCkpt_map (s : State) (v : Ckpt) : (s.setCkpt v).map = s.map := rfl
@[simp] theorem State.setCkpt_waiters (s : State) (v : Ckpt) : (s.setCkpt v).waiters = s.waiters := rfl
@[simp] theorem State.setCkpt_units (s : State) (v : Ckpt) : (s.setCkpt v).units = s.units := rfl
@[simp] theorem State.setCkpt_eraseQueues (s : State) (v : Ckpt) : (s.setCkpt v).eraseQueues = s.eraseQueues := rfl
@[simp] theorem State.setCkpt_holds (s : State) (v : Ckpt) : (s.setCkpt v).holds = s.holds := rfl
@[simp] theorem State.setCkpt_moves (s : State) (v : Ckpt) : (s.setCkpt v).moves = s.moves := rfl
@[simp] theorem State.setCkpt_ckpt (s : State) (v : Ckpt) : (s.setCkpt v).ckpt = v := rfl
@[simp] theorem State.setCkpt_channels (s : State) (v : Ckpt) : (s.setCkpt v).channels = s.channels := rfl
@[simp] theorem State.setCkpt_link (s : State) (v : Ckpt) : (s.setCkpt v).link = s.link := rfl
@[simp] theorem State.setChannels_pending (s : State) (v : Vector Channel 4) : (s.setChannels v).pending = s.pending := rfl
@[simp] theorem State.setChannels_resetLow (s : State) (v : Vector Channel 4) : (s.setChannels v).resetLow = s.resetLow := rfl
@[simp] theorem State.setChannels_miso (s : State) (v : Vector Channel 4) : (s.setChannels v).miso = s.miso := rfl
@[simp] theorem State.setChannels_tick (s : State) (v : Vector Channel 4) : (s.setChannels v).tick = s.tick := rfl
@[simp] theorem State.setChannels_device (s : State) (v : Vector Channel 4) : (s.setChannels v).device = s.device := rfl
@[simp] theorem State.setChannels_startup (s : State) (v : Vector Channel 4) : (s.setChannels v).startup = s.startup := rfl
@[simp] theorem State.setChannels_formatRec (s : State) (v : Vector Channel 4) : (s.setChannels v).formatRec = s.formatRec := rfl
@[simp] theorem State.setChannels_params (s : State) (v : Vector Channel 4) : (s.setChannels v).params = s.params := rfl
@[simp] theorem State.setChannels_counters (s : State) (v : Vector Channel 4) : (s.setChannels v).counters = s.counters := rfl
@[simp] theorem State.setChannels_map (s : State) (v : Vector Channel 4) : (s.setChannels v).map = s.map := rfl
@[simp] theorem State.setChannels_waiters (s : State) (v : Vector Channel 4) : (s.setChannels v).waiters = s.waiters := rfl
@[simp] theorem State.setChannels_units (s : State) (v : Vector Channel 4) : (s.setChannels v).units = s.units := rfl
@[simp] theorem State.setChannels_eraseQueues (s : State) (v : Vector Channel 4) : (s.setChannels v).eraseQueues = s.eraseQueues := rfl
@[simp] theorem State.setChannels_holds (s : State) (v : Vector Channel 4) : (s.setChannels v).holds = s.holds := rfl
@[simp] theorem State.setChannels_moves (s : State) (v : Vector Channel 4) : (s.setChannels v).moves = s.moves := rfl
@[simp] theorem State.setChannels_ckpt (s : State) (v : Vector Channel 4) : (s.setChannels v).ckpt = s.ckpt := rfl
@[simp] theorem State.setChannels_channels (s : State) (v : Vector Channel 4) : (s.setChannels v).channels = v := rfl
@[simp] theorem State.setChannels_link (s : State) (v : Vector Channel 4) : (s.setChannels v).link = s.link := rfl
@[simp] theorem State.setLink_pending (s : State) (v : Link) : (s.setLink v).pending = s.pending := rfl
@[simp] theorem State.setLink_resetLow (s : State) (v : Link) : (s.setLink v).resetLow = s.resetLow := rfl
@[simp] theorem State.setLink_miso (s : State) (v : Link) : (s.setLink v).miso = s.miso := rfl
@[simp] theorem State.setLink_tick (s : State) (v : Link) : (s.setLink v).tick = s.tick := rfl
@[simp] theorem State.setLink_device (s : State) (v : Link) : (s.setLink v).device = s.device := rfl
@[simp] theorem State.setLink_startup (s : State) (v : Link) : (s.setLink v).startup = s.startup := rfl
@[simp] theorem State.setLink_formatRec (s : State) (v : Link) : (s.setLink v).formatRec = s.formatRec := rfl
@[simp] theorem State.setLink_params (s : State) (v : Link) : (s.setLink v).params = s.params := rfl
@[simp] theorem State.setLink_counters (s : State) (v : Link) : (s.setLink v).counters = s.counters := rfl
@[simp] theorem State.setLink_map (s : State) (v : Link) : (s.setLink v).map = s.map := rfl
@[simp] theorem State.setLink_waiters (s : State) (v : Link) : (s.setLink v).waiters = s.waiters := rfl
@[simp] theorem State.setLink_units (s : State) (v : Link) : (s.setLink v).units = s.units := rfl
@[simp] theorem State.setLink_eraseQueues (s : State) (v : Link) : (s.setLink v).eraseQueues = s.eraseQueues := rfl
@[simp] theorem State.setLink_holds (s : State) (v : Link) : (s.setLink v).holds = s.holds := rfl
@[simp] theorem State.setLink_moves (s : State) (v : Link) : (s.setLink v).moves = s.moves := rfl
@[simp] theorem State.setLink_ckpt (s : State) (v : Link) : (s.setLink v).ckpt = s.ckpt := rfl
@[simp] theorem State.setLink_channels (s : State) (v : Link) : (s.setLink v).channels = s.channels := rfl
@[simp] theorem State.setLink_link (s : State) (v : Link) : (s.setLink v).link = v := rfl

end Sys2Proof.Machine
end

