-- ==== Sys2Proof/Laws/Frames.lean ====
section
/-! SUPPORT. The frame of each shared operation: one simp lemma per field that the operation leaves as it is; and
the lengths of the bytes that the link shifts out. -/
namespace Sys2Proof.Machine

/-! ### Queues, notices and retirement (Machine/Ops.lean) -/

@[simp] theorem State.modifyUnit_frame (s : State) (g : Nat) (f : UnitRec → UnitRec) :
    (s.modifyUnit g f).pending = s.pending ∧ (s.modifyUnit g f).resetLow = s.resetLow ∧
    (s.modifyUnit g f).miso = s.miso ∧ (s.modifyUnit g f).tick = s.tick ∧ (s.modifyUnit g f).device = s.device ∧
    (s.modifyUnit g f).startup = s.startup ∧ (s.modifyUnit g f).formatRec = s.formatRec ∧
    (s.modifyUnit g f).params = s.params ∧ (s.modifyUnit g f).counters = s.counters ∧ (s.modifyUnit g f).map = s.map ∧
    (s.modifyUnit g f).waiters = s.waiters ∧ (s.modifyUnit g f).eraseQueues = s.eraseQueues ∧
    (s.modifyUnit g f).holds = s.holds ∧ (s.modifyUnit g f).moves = s.moves ∧ (s.modifyUnit g f).ckpt = s.ckpt ∧
    (s.modifyUnit g f).channels = s.channels ∧ (s.modifyUnit g f).link = s.link := by simp [State.modifyUnit]
@[simp] theorem State.setUnitState_frame (s : State) (g : Nat) (st : UnitState) :
    (s.setUnitState g st).pending = s.pending ∧ (s.setUnitState g st).resetLow = s.resetLow ∧
    (s.setUnitState g st).miso = s.miso ∧ (s.setUnitState g st).tick = s.tick ∧
    (s.setUnitState g st).device = s.device ∧ (s.setUnitState g st).startup = s.startup ∧
    (s.setUnitState g st).formatRec = s.formatRec ∧ (s.setUnitState g st).params = s.params ∧
    (s.setUnitState g st).counters = s.counters ∧ (s.setUnitState g st).map = s.map ∧
    (s.setUnitState g st).waiters = s.waiters ∧ (s.setUnitState g st).eraseQueues = s.eraseQueues ∧
    (s.setUnitState g st).holds = s.holds ∧ (s.setUnitState g st).moves = s.moves ∧
    (s.setUnitState g st).ckpt = s.ckpt ∧ (s.setUnitState g st).channels = s.channels ∧
    (s.setUnitState g st).link = s.link := by simp [State.setUnitState]
@[simp] theorem State.setChannel_frame (s : State) (c : Fin 4) (ch : Channel) :
    (s.setChannel c ch).pending = s.pending ∧ (s.setChannel c ch).resetLow = s.resetLow ∧
    (s.setChannel c ch).miso = s.miso ∧ (s.setChannel c ch).tick = s.tick ∧ (s.setChannel c ch).device = s.device ∧
    (s.setChannel c ch).startup = s.startup ∧ (s.setChannel c ch).formatRec = s.formatRec ∧
    (s.setChannel c ch).params = s.params ∧ (s.setChannel c ch).counters = s.counters ∧
    (s.setChannel c ch).map = s.map ∧ (s.setChannel c ch).waiters = s.waiters ∧ (s.setChannel c ch).units = s.units ∧
    (s.setChannel c ch).eraseQueues = s.eraseQueues ∧ (s.setChannel c ch).holds = s.holds ∧
    (s.setChannel c ch).moves = s.moves ∧ (s.setChannel c ch).ckpt = s.ckpt ∧ (s.setChannel c ch).link = s.link :=
  by simp [State.setChannel]
@[simp] theorem State.setLogical_frame (s : State) (n : Nat) (r : LogicalRec) :
    (s.setLogical n r).pending = s.pending ∧ (s.setLogical n r).resetLow = s.resetLow ∧
    (s.setLogical n r).miso = s.miso ∧ (s.setLogical n r).tick = s.tick ∧ (s.setLogical n r).device = s.device ∧
    (s.setLogical n r).startup = s.startup ∧ (s.setLogical n r).formatRec = s.formatRec ∧
    (s.setLogical n r).params = s.params ∧ (s.setLogical n r).counters = s.counters ∧
    (s.setLogical n r).waiters = s.waiters ∧ (s.setLogical n r).units = s.units ∧
    (s.setLogical n r).eraseQueues = s.eraseQueues ∧ (s.setLogical n r).holds = s.holds ∧
    (s.setLogical n r).moves = s.moves ∧ (s.setLogical n r).ckpt = s.ckpt ∧ (s.setLogical n r).channels = s.channels ∧
    (s.setLogical n r).link = s.link := by simp [State.setLogical]
@[simp] theorem State.modifyLogical_frame (s : State) (n : Nat) (f : LogicalRec → LogicalRec) :
    (s.modifyLogical n f).pending = s.pending ∧ (s.modifyLogical n f).resetLow = s.resetLow ∧
    (s.modifyLogical n f).miso = s.miso ∧ (s.modifyLogical n f).tick = s.tick ∧
    (s.modifyLogical n f).device = s.device ∧ (s.modifyLogical n f).startup = s.startup ∧
    (s.modifyLogical n f).formatRec = s.formatRec ∧ (s.modifyLogical n f).params = s.params ∧
    (s.modifyLogical n f).counters = s.counters ∧ (s.modifyLogical n f).waiters = s.waiters ∧
    (s.modifyLogical n f).units = s.units ∧ (s.modifyLogical n f).eraseQueues = s.eraseQueues ∧
    (s.modifyLogical n f).holds = s.holds ∧ (s.modifyLogical n f).moves = s.moves ∧
    (s.modifyLogical n f).ckpt = s.ckpt ∧ (s.modifyLogical n f).channels = s.channels ∧
    (s.modifyLogical n f).link = s.link := by simp [State.modifyLogical]
@[simp] theorem State.countBy_frame (s : State) (k : Counter) (n : Nat) :
    (s.countBy k n).pending = s.pending ∧ (s.countBy k n).resetLow = s.resetLow ∧ (s.countBy k n).miso = s.miso ∧
    (s.countBy k n).tick = s.tick ∧ (s.countBy k n).device = s.device ∧ (s.countBy k n).startup = s.startup ∧
    (s.countBy k n).formatRec = s.formatRec ∧ (s.countBy k n).params = s.params ∧ (s.countBy k n).map = s.map ∧
    (s.countBy k n).waiters = s.waiters ∧ (s.countBy k n).units = s.units ∧
    (s.countBy k n).eraseQueues = s.eraseQueues ∧ (s.countBy k n).holds = s.holds ∧ (s.countBy k n).moves = s.moves ∧
    (s.countBy k n).ckpt = s.ckpt ∧ (s.countBy k n).channels = s.channels ∧ (s.countBy k n).link = s.link :=
  by simp [State.countBy]
@[simp] theorem State.count_frame (s : State) (k : Counter) :
    (s.count k).pending = s.pending ∧ (s.count k).resetLow = s.resetLow ∧ (s.count k).miso = s.miso ∧
    (s.count k).tick = s.tick ∧ (s.count k).device = s.device ∧ (s.count k).startup = s.startup ∧
    (s.count k).formatRec = s.formatRec ∧ (s.count k).params = s.params ∧ (s.count k).map = s.map ∧
    (s.count k).waiters = s.waiters ∧ (s.count k).units = s.units ∧ (s.count k).eraseQueues = s.eraseQueues ∧
    (s.count k).holds = s.holds ∧ (s.count k).moves = s.moves ∧ (s.count k).ckpt = s.ckpt ∧
    (s.count k).channels = s.channels ∧ (s.count k).link = s.link := by simp [State.count]
@[simp] theorem State.complete_frame (s : State) (t : Byte) (r : Record) :
    (s.complete t r).pending = s.pending ∧ (s.complete t r).resetLow = s.resetLow ∧ (s.complete t r).miso = s.miso ∧
    (s.complete t r).tick = s.tick ∧ (s.complete t r).device = s.device ∧ (s.complete t r).startup = s.startup ∧
    (s.complete t r).formatRec = s.formatRec ∧ (s.complete t r).params = s.params ∧
    (s.complete t r).counters = s.counters ∧ (s.complete t r).map = s.map ∧ (s.complete t r).waiters = s.waiters ∧
    (s.complete t r).units = s.units ∧ (s.complete t r).eraseQueues = s.eraseQueues ∧
    (s.complete t r).holds = s.holds ∧ (s.complete t r).moves = s.moves ∧ (s.complete t r).ckpt = s.ckpt ∧
    (s.complete t r).channels = s.channels := by unfold State.complete; (try dsimp only); (repeat' split) <;> simp
@[simp] theorem State.completePlain_frame (s : State) (f : Frame) (st : Status) :
    (s.completePlain f st).pending = s.pending ∧ (s.completePlain f st).resetLow = s.resetLow ∧
    (s.completePlain f st).miso = s.miso ∧ (s.completePlain f st).tick = s.tick ∧
    (s.completePlain f st).device = s.device ∧ (s.completePlain f st).startup = s.startup ∧
    (s.completePlain f st).formatRec = s.formatRec ∧ (s.completePlain f st).params = s.params ∧
    (s.completePlain f st).counters = s.counters ∧ (s.completePlain f st).map = s.map ∧
    (s.completePlain f st).waiters = s.waiters ∧ (s.completePlain f st).units = s.units ∧
    (s.completePlain f st).eraseQueues = s.eraseQueues ∧ (s.completePlain f st).holds = s.holds ∧
    (s.completePlain f st).moves = s.moves ∧ (s.completePlain f st).ckpt = s.ckpt ∧
    (s.completePlain f st).channels = s.channels := by simp [State.completePlain]
@[simp] theorem State.post_frame (s : State) (k : NoticeKind) (r : Record) :
    (s.post k r).pending = s.pending ∧ (s.post k r).resetLow = s.resetLow ∧ (s.post k r).miso = s.miso ∧
    (s.post k r).tick = s.tick ∧ (s.post k r).device = s.device ∧ (s.post k r).startup = s.startup ∧
    (s.post k r).formatRec = s.formatRec ∧ (s.post k r).params = s.params ∧ (s.post k r).map = s.map ∧
    (s.post k r).waiters = s.waiters ∧ (s.post k r).units = s.units ∧ (s.post k r).eraseQueues = s.eraseQueues ∧
    (s.post k r).holds = s.holds ∧ (s.post k r).moves = s.moves ∧ (s.post k r).ckpt = s.ckpt ∧
    (s.post k r).channels = s.channels := by unfold State.post; (try dsimp only); (repeat' split) <;> simp
@[simp] theorem State.postLowSpares_frame (s : State) :
    (s.postLowSpares).pending = s.pending ∧ (s.postLowSpares).resetLow = s.resetLow ∧
    (s.postLowSpares).miso = s.miso ∧ (s.postLowSpares).tick = s.tick ∧ (s.postLowSpares).device = s.device ∧
    (s.postLowSpares).startup = s.startup ∧ (s.postLowSpares).formatRec = s.formatRec ∧
    (s.postLowSpares).params = s.params ∧ (s.postLowSpares).map = s.map ∧ (s.postLowSpares).waiters = s.waiters ∧
    (s.postLowSpares).units = s.units ∧ (s.postLowSpares).eraseQueues = s.eraseQueues ∧
    (s.postLowSpares).holds = s.holds ∧ (s.postLowSpares).moves = s.moves ∧ (s.postLowSpares).ckpt = s.ckpt ∧
    (s.postLowSpares).channels = s.channels :=
  by unfold State.postLowSpares; (try dsimp only); (repeat' split) <;> simp
@[simp] theorem State.retireUnit_frame (s : State) (g : Nat) (c : Cause) :
    (s.retireUnit g c).pending = s.pending ∧ (s.retireUnit g c).resetLow = s.resetLow ∧
    (s.retireUnit g c).miso = s.miso ∧ (s.retireUnit g c).tick = s.tick ∧ (s.retireUnit g c).device = s.device ∧
    (s.retireUnit g c).startup = s.startup ∧ (s.retireUnit g c).formatRec = s.formatRec ∧
    (s.retireUnit g c).params = s.params ∧ (s.retireUnit g c).map = s.map ∧ (s.retireUnit g c).waiters = s.waiters ∧
    (s.retireUnit g c).eraseQueues = s.eraseQueues ∧ (s.retireUnit g c).holds = s.holds ∧
    (s.retireUnit g c).moves = s.moves ∧ (s.retireUnit g c).ckpt = s.ckpt ∧
    (s.retireUnit g c).channels = s.channels := by simp [State.retireUnit]
@[simp] theorem State.joinTail_frame (s : State) (g : Nat) :
    (s.joinTail g).pending = s.pending ∧ (s.joinTail g).resetLow = s.resetLow ∧ (s.joinTail g).miso = s.miso ∧
    (s.joinTail g).tick = s.tick ∧ (s.joinTail g).device = s.device ∧ (s.joinTail g).startup = s.startup ∧
    (s.joinTail g).formatRec = s.formatRec ∧ (s.joinTail g).params = s.params ∧ (s.joinTail g).counters = s.counters ∧
    (s.joinTail g).map = s.map ∧ (s.joinTail g).waiters = s.waiters ∧ (s.joinTail g).units = s.units ∧
    (s.joinTail g).holds = s.holds ∧ (s.joinTail g).moves = s.moves ∧ (s.joinTail g).ckpt = s.ckpt ∧
    (s.joinTail g).channels = s.channels ∧ (s.joinTail g).link = s.link := by simp [State.joinTail]
@[simp] theorem State.joinHead_frame (s : State) (g : Nat) :
    (s.joinHead g).pending = s.pending ∧ (s.joinHead g).resetLow = s.resetLow ∧ (s.joinHead g).miso = s.miso ∧
    (s.joinHead g).tick = s.tick ∧ (s.joinHead g).device = s.device ∧ (s.joinHead g).startup = s.startup ∧
    (s.joinHead g).formatRec = s.formatRec ∧ (s.joinHead g).params = s.params ∧ (s.joinHead g).counters = s.counters ∧
    (s.joinHead g).map = s.map ∧ (s.joinHead g).waiters = s.waiters ∧ (s.joinHead g).units = s.units ∧
    (s.joinHead g).holds = s.holds ∧ (s.joinHead g).moves = s.moves ∧ (s.joinHead g).ckpt = s.ckpt ∧
    (s.joinHead g).channels = s.channels ∧ (s.joinHead g).link = s.link := by simp [State.joinHead]
@[simp] theorem State.leaveQueue_frame (s : State) (g : Nat) :
    (s.leaveQueue g).pending = s.pending ∧ (s.leaveQueue g).resetLow = s.resetLow ∧ (s.leaveQueue g).miso = s.miso ∧
    (s.leaveQueue g).tick = s.tick ∧ (s.leaveQueue g).device = s.device ∧ (s.leaveQueue g).startup = s.startup ∧
    (s.leaveQueue g).formatRec = s.formatRec ∧ (s.leaveQueue g).params = s.params ∧
    (s.leaveQueue g).counters = s.counters ∧ (s.leaveQueue g).map = s.map ∧ (s.leaveQueue g).waiters = s.waiters ∧
    (s.leaveQueue g).units = s.units ∧ (s.leaveQueue g).holds = s.holds ∧ (s.leaveQueue g).moves = s.moves ∧
    (s.leaveQueue g).ckpt = s.ckpt ∧ (s.leaveQueue g).channels = s.channels ∧ (s.leaveQueue g).link = s.link :=
  by simp [State.leaveQueue]
@[simp] theorem State.dirtyTail_frame (s : State) (g : Nat) :
    (s.dirtyTail g).pending = s.pending ∧ (s.dirtyTail g).resetLow = s.resetLow ∧ (s.dirtyTail g).miso = s.miso ∧
    (s.dirtyTail g).tick = s.tick ∧ (s.dirtyTail g).device = s.device ∧ (s.dirtyTail g).startup = s.startup ∧
    (s.dirtyTail g).formatRec = s.formatRec ∧ (s.dirtyTail g).params = s.params ∧
    (s.dirtyTail g).counters = s.counters ∧ (s.dirtyTail g).map = s.map ∧ (s.dirtyTail g).waiters = s.waiters ∧
    (s.dirtyTail g).holds = s.holds ∧ (s.dirtyTail g).moves = s.moves ∧ (s.dirtyTail g).ckpt = s.ckpt ∧
    (s.dirtyTail g).channels = s.channels ∧ (s.dirtyTail g).link = s.link := by simp [State.dirtyTail]
@[simp] theorem State.dirtyHead_frame (s : State) (g : Nat) :
    (s.dirtyHead g).pending = s.pending ∧ (s.dirtyHead g).resetLow = s.resetLow ∧ (s.dirtyHead g).miso = s.miso ∧
    (s.dirtyHead g).tick = s.tick ∧ (s.dirtyHead g).device = s.device ∧ (s.dirtyHead g).startup = s.startup ∧
    (s.dirtyHead g).formatRec = s.formatRec ∧ (s.dirtyHead g).params = s.params ∧
    (s.dirtyHead g).counters = s.counters ∧ (s.dirtyHead g).map = s.map ∧ (s.dirtyHead g).waiters = s.waiters ∧
    (s.dirtyHead g).holds = s.holds ∧ (s.dirtyHead g).moves = s.moves ∧ (s.dirtyHead g).ckpt = s.ckpt ∧
    (s.dirtyHead g).channels = s.channels ∧ (s.dirtyHead g).link = s.link := by simp [State.dirtyHead]
@[simp] theorem State.releaseUnit_frame (s : State) (g : Nat) :
    (s.releaseUnit g).pending = s.pending ∧ (s.releaseUnit g).resetLow = s.resetLow ∧
    (s.releaseUnit g).miso = s.miso ∧ (s.releaseUnit g).tick = s.tick ∧ (s.releaseUnit g).device = s.device ∧
    (s.releaseUnit g).startup = s.startup ∧ (s.releaseUnit g).formatRec = s.formatRec ∧
    (s.releaseUnit g).params = s.params ∧ (s.releaseUnit g).map = s.map ∧ (s.releaseUnit g).waiters = s.waiters ∧
    (s.releaseUnit g).holds = s.holds ∧ (s.releaseUnit g).moves = s.moves ∧ (s.releaseUnit g).ckpt = s.ckpt ∧
    (s.releaseUnit g).channels = s.channels := by unfold State.releaseUnit; (try dsimp only); (repeat' split) <;> simp
@[simp] theorem State.discardToTail_frame (s : State) (g : Nat) :
    (s.discardToTail g).pending = s.pending ∧ (s.discardToTail g).resetLow = s.resetLow ∧
    (s.discardToTail g).miso = s.miso ∧ (s.discardToTail g).tick = s.tick ∧ (s.discardToTail g).device = s.device ∧
    (s.discardToTail g).startup = s.startup ∧ (s.discardToTail g).formatRec = s.formatRec ∧
    (s.discardToTail g).params = s.params ∧ (s.discardToTail g).map = s.map ∧
    (s.discardToTail g).waiters = s.waiters ∧ (s.discardToTail g).holds = s.holds ∧
    (s.discardToTail g).moves = s.moves ∧ (s.discardToTail g).ckpt = s.ckpt ∧
    (s.discardToTail g).channels = s.channels :=
  by unfold State.discardToTail; (try dsimp only); (repeat' split) <;> simp
@[simp] theorem State.discardToHead_frame (s : State) (g : Nat) :
    (s.discardToHead g).pending = s.pending ∧ (s.discardToHead g).resetLow = s.resetLow ∧
    (s.discardToHead g).miso = s.miso ∧ (s.discardToHead g).tick = s.tick ∧ (s.discardToHead g).device = s.device ∧
    (s.discardToHead g).startup = s.startup ∧ (s.discardToHead g).formatRec = s.formatRec ∧
    (s.discardToHead g).params = s.params ∧ (s.discardToHead g).map = s.map ∧
    (s.discardToHead g).waiters = s.waiters ∧ (s.discardToHead g).holds = s.holds ∧
    (s.discardToHead g).moves = s.moves ∧ (s.discardToHead g).ckpt = s.ckpt ∧
    (s.discardToHead g).channels = s.channels :=
  by unfold State.discardToHead; (try dsimp only); (repeat' split) <;> simp
@[simp] theorem State.takeHold_frame (s : State) (g n : Nat) (gen : Word16) :
    ((s.takeHold g n gen).1).pending = s.pending ∧ ((s.takeHold g n gen).1).resetLow = s.resetLow ∧
    ((s.takeHold g n gen).1).miso = s.miso ∧ ((s.takeHold g n gen).1).tick = s.tick ∧
    ((s.takeHold g n gen).1).device = s.device ∧ ((s.takeHold g n gen).1).startup = s.startup ∧
    ((s.takeHold g n gen).1).formatRec = s.formatRec ∧ ((s.takeHold g n gen).1).params = s.params ∧
    ((s.takeHold g n gen).1).map = s.map ∧ ((s.takeHold g n gen).1).waiters = s.waiters ∧
    ((s.takeHold g n gen).1).eraseQueues = s.eraseQueues ∧ ((s.takeHold g n gen).1).moves = s.moves ∧
    ((s.takeHold g n gen).1).ckpt = s.ckpt ∧ ((s.takeHold g n gen).1).channels = s.channels ∧
    ((s.takeHold g n gen).1).link = s.link := by unfold State.takeHold; (try dsimp only); (repeat' split) <;> simp
@[simp] theorem State.removeHold_frame (s : State) (i : Fin 64) (e : HoldEntry) :
    (s.removeHold i e).pending = s.pending ∧ (s.removeHold i e).resetLow = s.resetLow ∧
    (s.removeHold i e).miso = s.miso ∧ (s.removeHold i e).tick = s.tick ∧ (s.removeHold i e).device = s.device ∧
    (s.removeHold i e).startup = s.startup ∧ (s.removeHold i e).formatRec = s.formatRec ∧
    (s.removeHold i e).params = s.params ∧ (s.removeHold i e).map = s.map ∧ (s.removeHold i e).waiters = s.waiters ∧
    (s.removeHold i e).moves = s.moves ∧ (s.removeHold i e).ckpt = s.ckpt ∧
    (s.removeHold i e).channels = s.channels := by unfold State.removeHold; (try dsimp only); (repeat' split) <;> simp

/-! ### The checkpoint unit (Machine/Checkpoint.lean) -/

@[simp] theorem State.formatSucceeds_frame (s : State) :
    (s.formatSucceeds).pending = s.pending ∧ (s.formatSucceeds).resetLow = s.resetLow ∧
    (s.formatSucceeds).miso = s.miso ∧ (s.formatSucceeds).tick = s.tick ∧ (s.formatSucceeds).startup = s.startup ∧
    (s.formatSucceeds).params = s.params ∧ (s.formatSucceeds).counters = s.counters ∧ (s.formatSucceeds).map = s.map ∧
    (s.formatSucceeds).waiters = s.waiters ∧ (s.formatSucceeds).units = s.units ∧
    (s.formatSucceeds).eraseQueues = s.eraseQueues ∧ (s.formatSucceeds).holds = s.holds ∧
    (s.formatSucceeds).moves = s.moves ∧ (s.formatSucceeds).ckpt = s.ckpt ∧
    (s.formatSucceeds).channels = s.channels :=
  by unfold State.formatSucceeds; (try dsimp only); (repeat' split) <;> simp
@[simp] theorem State.formatFails_frame (s : State) (r : FormatReason) :
    (s.formatFails r).pending = s.pending ∧ (s.formatFails r).resetLow = s.resetLow ∧
    (s.formatFails r).miso = s.miso ∧ (s.formatFails r).tick = s.tick ∧ (s.formatFails r).startup = s.startup ∧
    (s.formatFails r).params = s.params ∧ (s.formatFails r).counters = s.counters ∧ (s.formatFails r).map = s.map ∧
    (s.formatFails r).waiters = s.waiters ∧ (s.formatFails r).units = s.units ∧
    (s.formatFails r).eraseQueues = s.eraseQueues ∧ (s.formatFails r).holds = s.holds ∧
    (s.formatFails r).moves = s.moves ∧ (s.formatFails r).ckpt = s.ckpt ∧ (s.formatFails r).channels = s.channels :=
  by unfold State.formatFails; (try dsimp only); (repeat' split) <;> simp
@[simp] theorem State.setPendingImage_frame (s : State) (c : Fin 4) (w : Option ImageWork) :
    (s.setPendingImage c w).pending = s.pending ∧ (s.setPendingImage c w).resetLow = s.resetLow ∧
    (s.setPendingImage c w).miso = s.miso ∧ (s.setPendingImage c w).tick = s.tick ∧
    (s.setPendingImage c w).device = s.device ∧ (s.setPendingImage c w).startup = s.startup ∧
    (s.setPendingImage c w).formatRec = s.formatRec ∧ (s.setPendingImage c w).params = s.params ∧
    (s.setPendingImage c w).counters = s.counters ∧ (s.setPendingImage c w).map = s.map ∧
    (s.setPendingImage c w).waiters = s.waiters ∧ (s.setPendingImage c w).units = s.units ∧
    (s.setPendingImage c w).eraseQueues = s.eraseQueues ∧ (s.setPendingImage c w).holds = s.holds ∧
    (s.setPendingImage c w).moves = s.moves ∧ (s.setPendingImage c w).ckpt = s.ckpt ∧
    (s.setPendingImage c w).link = s.link := by simp [State.setPendingImage]
@[simp] theorem dirtyTails_frame (gs : List Nat) (s : State) :
    (gs.foldl State.dirtyTail s).pending = s.pending ∧ (gs.foldl State.dirtyTail s).resetLow = s.resetLow ∧
    (gs.foldl State.dirtyTail s).miso = s.miso ∧ (gs.foldl State.dirtyTail s).tick = s.tick ∧
    (gs.foldl State.dirtyTail s).device = s.device ∧ (gs.foldl State.dirtyTail s).startup = s.startup ∧
    (gs.foldl State.dirtyTail s).formatRec = s.formatRec ∧ (gs.foldl State.dirtyTail s).params = s.params ∧
    (gs.foldl State.dirtyTail s).counters = s.counters ∧ (gs.foldl State.dirtyTail s).map = s.map ∧
    (gs.foldl State.dirtyTail s).waiters = s.waiters ∧ (gs.foldl State.dirtyTail s).holds = s.holds ∧
    (gs.foldl State.dirtyTail s).moves = s.moves ∧ (gs.foldl State.dirtyTail s).ckpt = s.ckpt ∧
    (gs.foldl State.dirtyTail s).channels = s.channels ∧ (gs.foldl State.dirtyTail s).link = s.link := by
  induction gs generalizing s with
  | nil => simp
  | cons g gs ih => simp [ih]
@[simp] theorem State.sortCommitWait_frame (s : State) :
    (s.sortCommitWait).pending = s.pending ∧ (s.sortCommitWait).resetLow = s.resetLow ∧
    (s.sortCommitWait).miso = s.miso ∧ (s.sortCommitWait).tick = s.tick ∧ (s.sortCommitWait).device = s.device ∧
    (s.sortCommitWait).startup = s.startup ∧ (s.sortCommitWait).formatRec = s.formatRec ∧
    (s.sortCommitWait).params = s.params ∧ (s.sortCommitWait).counters = s.counters ∧ (s.sortCommitWait).map = s.map ∧
    (s.sortCommitWait).waiters = s.waiters ∧ (s.sortCommitWait).holds = s.holds ∧ (s.sortCommitWait).moves = s.moves ∧
    (s.sortCommitWait).ckpt = s.ckpt ∧ (s.sortCommitWait).channels = s.channels ∧ (s.sortCommitWait).link = s.link :=
  by simp [State.sortCommitWait]
@[simp] theorem State.reportCheckpoint_frame (s : State) (f : Flight) (st : Status) (r : CkptReason) (n : Nat) :
    (s.reportCheckpoint f st r n).pending = s.pending ∧ (s.reportCheckpoint f st r n).resetLow = s.resetLow ∧
    (s.reportCheckpoint f st r n).miso = s.miso ∧ (s.reportCheckpoint f st r n).tick = s.tick ∧
    (s.reportCheckpoint f st r n).startup = s.startup ∧ (s.reportCheckpoint f st r n).params = s.params ∧
    (s.reportCheckpoint f st r n).map = s.map ∧ (s.reportCheckpoint f st r n).waiters = s.waiters ∧
    (s.reportCheckpoint f st r n).units = s.units ∧ (s.reportCheckpoint f st r n).eraseQueues = s.eraseQueues ∧
    (s.reportCheckpoint f st r n).holds = s.holds ∧ (s.reportCheckpoint f st r n).moves = s.moves ∧
    (s.reportCheckpoint f st r n).ckpt = s.ckpt ∧ (s.reportCheckpoint f st r n).channels = s.channels :=
  by unfold State.reportCheckpoint; (try dsimp only); (repeat' split) <;> simp
@[simp] theorem State.checkpointSucceeds_frame (s : State) :
    (s.checkpointSucceeds).pending = s.pending ∧ (s.checkpointSucceeds).resetLow = s.resetLow ∧
    (s.checkpointSucceeds).miso = s.miso ∧ (s.checkpointSucceeds).tick = s.tick ∧
    (s.checkpointSucceeds).startup = s.startup ∧ (s.checkpointSucceeds).params = s.params ∧
    (s.checkpointSucceeds).map = s.map ∧ (s.checkpointSucceeds).waiters = s.waiters ∧
    (s.checkpointSucceeds).holds = s.holds ∧ (s.checkpointSucceeds).moves = s.moves ∧
    (s.checkpointSucceeds).channels = s.channels :=
  by unfold State.checkpointSucceeds; (try dsimp only); (repeat' split) <;> simp
@[simp] theorem State.checkpointFails_frame (s : State) (r : CkptReason) (w : Bool) :
    (s.checkpointFails r w).pending = s.pending ∧ (s.checkpointFails r w).resetLow = s.resetLow ∧
    (s.checkpointFails r w).miso = s.miso ∧ (s.checkpointFails r w).tick = s.tick ∧
    (s.checkpointFails r w).startup = s.startup ∧ (s.checkpointFails r w).params = s.params ∧
    (s.checkpointFails r w).map = s.map ∧ (s.checkpointFails r w).waiters = s.waiters ∧
    (s.checkpointFails r w).holds = s.holds ∧ (s.checkpointFails r w).moves = s.moves ∧
    (s.checkpointFails r w).channels = s.channels :=
  by unfold State.checkpointFails; (try dsimp only); (repeat' split) <;> simp
@[simp] theorem State.placeCheckpointOp_frame (s : State) (k : Slot) (o : OpKind) :
    (s.placeCheckpointOp k o).pending = s.pending ∧ (s.placeCheckpointOp k o).resetLow = s.resetLow ∧
    (s.placeCheckpointOp k o).miso = s.miso ∧ (s.placeCheckpointOp k o).tick = s.tick ∧
    (s.placeCheckpointOp k o).startup = s.startup ∧ (s.placeCheckpointOp k o).params = s.params ∧
    (s.placeCheckpointOp k o).map = s.map ∧ (s.placeCheckpointOp k o).waiters = s.waiters ∧
    (s.placeCheckpointOp k o).holds = s.holds ∧ (s.placeCheckpointOp k o).moves = s.moves :=
  by unfold State.placeCheckpointOp; (try dsimp only); (repeat' split) <;> simp
@[simp] theorem State.startCheckpoint_frame (s : State) (o : CkptOrigin) :
    (s.startCheckpoint o).pending = s.pending ∧ (s.startCheckpoint o).resetLow = s.resetLow ∧
    (s.startCheckpoint o).miso = s.miso ∧ (s.startCheckpoint o).tick = s.tick ∧
    (s.startCheckpoint o).startup = s.startup ∧ (s.startCheckpoint o).params = s.params ∧
    (s.startCheckpoint o).map = s.map ∧ (s.startCheckpoint o).waiters = s.waiters ∧
    (s.startCheckpoint o).holds = s.holds ∧ (s.startCheckpoint o).moves = s.moves := by simp [State.startCheckpoint]
@[simp] theorem State.startFormatCheckpoint_frame (s : State) :
    (s.startFormatCheckpoint).pending = s.pending ∧ (s.startFormatCheckpoint).resetLow = s.resetLow ∧
    (s.startFormatCheckpoint).miso = s.miso ∧ (s.startFormatCheckpoint).tick = s.tick ∧
    (s.startFormatCheckpoint).startup = s.startup ∧ (s.startFormatCheckpoint).params = s.params ∧
    (s.startFormatCheckpoint).map = s.map ∧ (s.startFormatCheckpoint).waiters = s.waiters ∧
    (s.startFormatCheckpoint).holds = s.holds ∧ (s.startFormatCheckpoint).moves = s.moves :=
  by simp [State.startFormatCheckpoint]

/-- R96, R111: a checkpoint that starts on an ONLINE target channel changes the checkpoint unit and places its slot
erase, and nothing else. -/
theorem State.startCheckpoint_online (s : State) (o : CkptOrigin) (h : s.online (s.slotChannel s.targetSlot) = true) :
    s.startCheckpoint o =
      (s.setCkpt { s.ckpt with flight := some ⟨.erasingSlot, o, s.targetSlot, s.takeSnapshot s.targetSlot⟩ }).setPendingImage
        (s.slotChannel s.targetSlot) (some ⟨.erase (s.slotIndex s.targetSlot), .checkpoint⟩) := by
  unfold State.startCheckpoint State.placeCheckpointOp
  exact if_pos h

theorem State.autoTriggers_online (s : State) (h : s.autoTriggers = true) :
    s.online (s.slotChannel s.targetSlot) = true := by
  simp [State.autoTriggers] at h; exact h.1.2

/-- R111: what the trigger's test can do. -/
theorem State.testTrigger_cases (s : State) (g : Nat) :
    s.testTrigger g = s ∨ (s.autoTriggers = true ∧ s.testTrigger g =
      (s.setCkpt { s.ckpt with flight := some ⟨.erasingSlot, .auto, s.targetSlot, s.takeSnapshot s.targetSlot⟩ }).setPendingImage
        (s.slotChannel s.targetSlot) (some ⟨.erase (s.slotIndex s.targetSlot), .checkpoint⟩)) := by
  unfold State.testTrigger
  split
  · split
    · next h =>
      have h2 : s.autoTriggers = true := by simp at h; exact h.2
      exact .inr ⟨h2, s.startCheckpoint_online .auto (s.autoTriggers_online h2)⟩
    · exact .inl rfl
  · exact .inl rfl

@[simp] theorem State.testTrigger_frame (s : State) (g : Nat) :
    (s.testTrigger g).pending = s.pending ∧ (s.testTrigger g).resetLow = s.resetLow ∧
    (s.testTrigger g).miso = s.miso ∧ (s.testTrigger g).tick = s.tick ∧ (s.testTrigger g).device = s.device ∧
    (s.testTrigger g).startup = s.startup ∧ (s.testTrigger g).formatRec = s.formatRec ∧
    (s.testTrigger g).params = s.params ∧ (s.testTrigger g).counters = s.counters ∧ (s.testTrigger g).map = s.map ∧
    (s.testTrigger g).waiters = s.waiters ∧ (s.testTrigger g).units = s.units ∧
    (s.testTrigger g).eraseQueues = s.eraseQueues ∧ (s.testTrigger g).holds = s.holds ∧
    (s.testTrigger g).moves = s.moves ∧ (s.testTrigger g).link = s.link := by
  obtain h | ⟨-, h⟩ := s.testTrigger_cases g <;> simp [h]

/-! ### The relocation engine (Machine/Relocation.lean) -/

@[simp] theorem State.setMove_frame (s : State) (c : Fin 4) (m : Option Move) :
    (s.setMove c m).pending = s.pending ∧ (s.setMove c m).resetLow = s.resetLow ∧ (s.setMove c m).miso = s.miso ∧
    (s.setMove c m).tick = s.tick ∧ (s.setMove c m).device = s.device ∧ (s.setMove c m).startup = s.startup ∧
    (s.setMove c m).formatRec = s.formatRec ∧ (s.setMove c m).params = s.params ∧
    (s.setMove c m).counters = s.counters ∧ (s.setMove c m).map = s.map ∧ (s.setMove c m).waiters = s.waiters ∧
    (s.setMove c m).units = s.units ∧ (s.setMove c m).eraseQueues = s.eraseQueues ∧ (s.setMove c m).holds = s.holds ∧
    (s.setMove c m).ckpt = s.ckpt ∧ (s.setMove c m).channels = s.channels ∧ (s.setMove c m).link = s.link :=
  by simp [State.setMove]
@[simp] theorem State.clearMoveRef_frame (s : State) (n : Nat) :
    (s.clearMoveRef n).pending = s.pending ∧ (s.clearMoveRef n).resetLow = s.resetLow ∧
    (s.clearMoveRef n).miso = s.miso ∧ (s.clearMoveRef n).tick = s.tick ∧ (s.clearMoveRef n).device = s.device ∧
    (s.clearMoveRef n).startup = s.startup ∧ (s.clearMoveRef n).formatRec = s.formatRec ∧
    (s.clearMoveRef n).params = s.params ∧ (s.clearMoveRef n).counters = s.counters ∧
    (s.clearMoveRef n).waiters = s.waiters ∧ (s.clearMoveRef n).units = s.units ∧
    (s.clearMoveRef n).eraseQueues = s.eraseQueues ∧ (s.clearMoveRef n).holds = s.holds ∧
    (s.clearMoveRef n).moves = s.moves ∧ (s.clearMoveRef n).ckpt = s.ckpt ∧ (s.clearMoveRef n).channels = s.channels ∧
    (s.clearMoveRef n).link = s.link := by simp [State.clearMoveRef]
@[simp] theorem State.startMove_frame (s : State) (n a b : Nat) (o : MoveOrigin) :
    (s.startMove n a b o).pending = s.pending ∧ (s.startMove n a b o).resetLow = s.resetLow ∧
    (s.startMove n a b o).miso = s.miso ∧ (s.startMove n a b o).tick = s.tick ∧
    (s.startMove n a b o).device = s.device ∧ (s.startMove n a b o).startup = s.startup ∧
    (s.startMove n a b o).formatRec = s.formatRec ∧ (s.startMove n a b o).params = s.params ∧
    (s.startMove n a b o).counters = s.counters ∧ (s.startMove n a b o).waiters = s.waiters ∧
    (s.startMove n a b o).eraseQueues = s.eraseQueues ∧ (s.startMove n a b o).holds = s.holds ∧
    (s.startMove n a b o).ckpt = s.ckpt ∧ (s.startMove n a b o).channels = s.channels ∧
    (s.startMove n a b o).link = s.link := by simp [State.startMove]
@[simp] theorem State.reportMove_frame (s : State) (c : Fin 4) (m : Move) (st : Status) (r : MoveReason)
    (a : Option Nat × Word16) :
    (s.reportMove c m st r a).pending = s.pending ∧ (s.reportMove c m st r a).resetLow = s.resetLow ∧
    (s.reportMove c m st r a).miso = s.miso ∧ (s.reportMove c m st r a).tick = s.tick ∧
    (s.reportMove c m st r a).device = s.device ∧ (s.reportMove c m st r a).startup = s.startup ∧
    (s.reportMove c m st r a).formatRec = s.formatRec ∧ (s.reportMove c m st r a).params = s.params ∧
    (s.reportMove c m st r a).map = s.map ∧ (s.reportMove c m st r a).waiters = s.waiters ∧
    (s.reportMove c m st r a).units = s.units ∧ (s.reportMove c m st r a).eraseQueues = s.eraseQueues ∧
    (s.reportMove c m st r a).holds = s.holds ∧ (s.reportMove c m st r a).moves = s.moves ∧
    (s.reportMove c m st r a).ckpt = s.ckpt ∧ (s.reportMove c m st r a).channels = s.channels :=
  by unfold State.reportMove; (try dsimp only); (repeat' split) <;> simp
@[simp] theorem State.endMove_frame (s : State) (c : Fin 4) (m : Move) (st : Status) (r : MoveReason)
    (a : Option Nat × Word16) :
    (s.endMove c m st r a).pending = s.pending ∧ (s.endMove c m st r a).resetLow = s.resetLow ∧
    (s.endMove c m st r a).miso = s.miso ∧ (s.endMove c m st r a).tick = s.tick ∧
    (s.endMove c m st r a).device = s.device ∧ (s.endMove c m st r a).startup = s.startup ∧
    (s.endMove c m st r a).formatRec = s.formatRec ∧ (s.endMove c m st r a).params = s.params ∧
    (s.endMove c m st r a).map = s.map ∧ (s.endMove c m st r a).waiters = s.waiters ∧
    (s.endMove c m st r a).units = s.units ∧ (s.endMove c m st r a).eraseQueues = s.eraseQueues ∧
    (s.endMove c m st r a).holds = s.holds ∧ (s.endMove c m st r a).ckpt = s.ckpt ∧
    (s.endMove c m st r a).channels = s.channels := by simp [State.endMove]
@[simp] theorem State.abandonMove_frame (s : State) (n : Nat) (a : Option Nat × Word16) :
    ((s.abandonMove n a).1).pending = s.pending ∧ ((s.abandonMove n a).1).resetLow = s.resetLow ∧
    ((s.abandonMove n a).1).miso = s.miso ∧ ((s.abandonMove n a).1).tick = s.tick ∧
    ((s.abandonMove n a).1).device = s.device ∧ ((s.abandonMove n a).1).startup = s.startup ∧
    ((s.abandonMove n a).1).formatRec = s.formatRec ∧ ((s.abandonMove n a).1).params = s.params ∧
    ((s.abandonMove n a).1).waiters = s.waiters ∧ ((s.abandonMove n a).1).eraseQueues = s.eraseQueues ∧
    ((s.abandonMove n a).1).holds = s.holds ∧ ((s.abandonMove n a).1).ckpt = s.ckpt ∧
    ((s.abandonMove n a).1).channels = s.channels :=
  by unfold State.abandonMove; (try dsimp only); (repeat' split) <;> simp
@[simp] theorem State.commitMove_frame (s : State) (c : Fin 4) (m : Move) :
    (s.commitMove c m).pending = s.pending ∧ (s.commitMove c m).resetLow = s.resetLow ∧
    (s.commitMove c m).miso = s.miso ∧ (s.commitMove c m).tick = s.tick ∧ (s.commitMove c m).device = s.device ∧
    (s.commitMove c m).startup = s.startup ∧ (s.commitMove c m).formatRec = s.formatRec ∧
    (s.commitMove c m).params = s.params ∧ (s.commitMove c m).waiters = s.waiters ∧
    (s.commitMove c m).holds = s.holds := by simp [State.commitMove]
@[simp] theorem State.endCopy_frame (s : State) (c : Fin 4) (m : Move) (r : MoveReason) :
    (s.endCopy c m r).pending = s.pending ∧ (s.endCopy c m r).resetLow = s.resetLow ∧
    (s.endCopy c m r).miso = s.miso ∧ (s.endCopy c m r).tick = s.tick ∧ (s.endCopy c m r).device = s.device ∧
    (s.endCopy c m r).startup = s.startup ∧ (s.endCopy c m r).formatRec = s.formatRec ∧
    (s.endCopy c m r).params = s.params ∧ (s.endCopy c m r).waiters = s.waiters ∧ (s.endCopy c m r).units = s.units ∧
    (s.endCopy c m r).eraseQueues = s.eraseQueues ∧ (s.endCopy c m r).holds = s.holds ∧
    (s.endCopy c m r).ckpt = s.ckpt ∧ (s.endCopy c m r).channels = s.channels :=
  by unfold State.endCopy; (try dsimp only); (repeat' split) <;> simp
@[simp] theorem State.loseCopy_frame (s : State) (c : Fin 4) :
    (s.loseCopy c).pending = s.pending ∧ (s.loseCopy c).resetLow = s.resetLow ∧ (s.loseCopy c).miso = s.miso ∧
    (s.loseCopy c).tick = s.tick ∧ (s.loseCopy c).device = s.device ∧ (s.loseCopy c).startup = s.startup ∧
    (s.loseCopy c).formatRec = s.formatRec ∧ (s.loseCopy c).params = s.params ∧ (s.loseCopy c).waiters = s.waiters ∧
    (s.loseCopy c).holds = s.holds ∧ (s.loseCopy c).ckpt = s.ckpt ∧ (s.loseCopy c).channels = s.channels :=
  by unfold State.loseCopy; (try dsimp only); (repeat' split) <;> simp
@[simp] theorem State.loseAssigned_frame (s : State) (c : Fin 4) :
    (s.loseAssigned c).pending = s.pending ∧ (s.loseAssigned c).resetLow = s.resetLow ∧
    (s.loseAssigned c).miso = s.miso ∧ (s.loseAssigned c).tick = s.tick ∧ (s.loseAssigned c).device = s.device ∧
    (s.loseAssigned c).startup = s.startup ∧ (s.loseAssigned c).formatRec = s.formatRec ∧
    (s.loseAssigned c).params = s.params ∧ (s.loseAssigned c).waiters = s.waiters ∧
    (s.loseAssigned c).eraseQueues = s.eraseQueues ∧ (s.loseAssigned c).holds = s.holds ∧
    (s.loseAssigned c).ckpt = s.ckpt ∧ (s.loseAssigned c).channels = s.channels :=
  by unfold State.loseAssigned; (try dsimp only); (repeat' split) <;> simp
@[simp] theorem State.level_frame (s : State) (c : Fin 4) :
    (s.level c).pending = s.pending ∧ (s.level c).resetLow = s.resetLow ∧ (s.level c).miso = s.miso ∧
    (s.level c).tick = s.tick ∧ (s.level c).device = s.device ∧ (s.level c).startup = s.startup ∧
    (s.level c).formatRec = s.formatRec ∧ (s.level c).params = s.params ∧ (s.level c).counters = s.counters ∧
    (s.level c).waiters = s.waiters ∧ (s.level c).eraseQueues = s.eraseQueues ∧ (s.level c).holds = s.holds ∧
    (s.level c).ckpt = s.ckpt ∧ (s.level c).channels = s.channels ∧ (s.level c).link = s.link :=
  by unfold State.level; (try dsimp only); (repeat' split) <;> simp
@[simp] theorem State.evaluate_frame (s : State) (c : Fin 4) :
    (s.evaluate c).pending = s.pending ∧ (s.evaluate c).resetLow = s.resetLow ∧ (s.evaluate c).miso = s.miso ∧
    (s.evaluate c).tick = s.tick ∧ (s.evaluate c).device = s.device ∧ (s.evaluate c).startup = s.startup ∧
    (s.evaluate c).formatRec = s.formatRec ∧ (s.evaluate c).params = s.params ∧ (s.evaluate c).counters = s.counters ∧
    (s.evaluate c).waiters = s.waiters ∧ (s.evaluate c).eraseQueues = s.eraseQueues ∧ (s.evaluate c).holds = s.holds ∧
    (s.evaluate c).ckpt = s.ckpt ∧ (s.evaluate c).channels = s.channels ∧ (s.evaluate c).link = s.link :=
  by unfold State.evaluate; (try dsimp only); (repeat' split) <;> simp
@[simp] theorem State.evaluateAll_cons (s : State) (c : Fin 4) (cs : List (Fin 4)) :
    s.evaluateAll (c :: cs) = (s.evaluate c).evaluateAll cs := rfl
@[simp] theorem State.evaluateAll_frame (s : State) (cs : List (Fin 4)) :
    (s.evaluateAll cs).pending = s.pending ∧ (s.evaluateAll cs).resetLow = s.resetLow ∧
    (s.evaluateAll cs).miso = s.miso ∧ (s.evaluateAll cs).tick = s.tick ∧ (s.evaluateAll cs).device = s.device ∧
    (s.evaluateAll cs).startup = s.startup ∧ (s.evaluateAll cs).formatRec = s.formatRec ∧
    (s.evaluateAll cs).params = s.params ∧ (s.evaluateAll cs).counters = s.counters ∧
    (s.evaluateAll cs).waiters = s.waiters ∧ (s.evaluateAll cs).eraseQueues = s.eraseQueues ∧
    (s.evaluateAll cs).holds = s.holds ∧ (s.evaluateAll cs).ckpt = s.ckpt ∧ (s.evaluateAll cs).channels = s.channels ∧
    (s.evaluateAll cs).link = s.link := by
  induction cs generalizing s with
  | nil => simp [State.evaluateAll]
  | cons c cs ih => simpa using ih (s.evaluate c)

/-! ### Binding (Machine/Binding.lean) -/

@[simp] theorem State.bindEffect_frame (s : State) (t : Byte) (n : Nat) (h : Bool) (g : Nat) :
    ((s.bindEffect t n h g).1).pending = s.pending ∧ ((s.bindEffect t n h g).1).resetLow = s.resetLow ∧
    ((s.bindEffect t n h g).1).miso = s.miso ∧ ((s.bindEffect t n h g).1).tick = s.tick ∧
    ((s.bindEffect t n h g).1).device = s.device ∧ ((s.bindEffect t n h g).1).startup = s.startup ∧
    ((s.bindEffect t n h g).1).formatRec = s.formatRec ∧ ((s.bindEffect t n h g).1).params = s.params ∧
    ((s.bindEffect t n h g).1).waiters = s.waiters :=
  by unfold State.bindEffect; (try dsimp only); (repeat' split) <;> simp
@[simp] theorem State.refuseWaiter_frame (s : State) (w : Waiter) (st : Status) :
    (s.refuseWaiter w st).pending = s.pending ∧ (s.refuseWaiter w st).resetLow = s.resetLow ∧
    (s.refuseWaiter w st).miso = s.miso ∧ (s.refuseWaiter w st).tick = s.tick ∧
    (s.refuseWaiter w st).device = s.device ∧ (s.refuseWaiter w st).startup = s.startup ∧
    (s.refuseWaiter w st).formatRec = s.formatRec ∧ (s.refuseWaiter w st).params = s.params ∧
    (s.refuseWaiter w st).counters = s.counters ∧ (s.refuseWaiter w st).map = s.map ∧
    (s.refuseWaiter w st).waiters = s.waiters ∧ (s.refuseWaiter w st).units = s.units ∧
    (s.refuseWaiter w st).eraseQueues = s.eraseQueues ∧ (s.refuseWaiter w st).holds = s.holds ∧
    (s.refuseWaiter w st).moves = s.moves ∧ (s.refuseWaiter w st).ckpt = s.ckpt ∧
    (s.refuseWaiter w st).channels = s.channels := by simp [State.refuseWaiter]
@[simp] theorem serve_frame (ws : List Waiter) (s : State) :
    ((serve ws s).1).pending = s.pending ∧ ((serve ws s).1).resetLow = s.resetLow ∧ ((serve ws s).1).miso = s.miso ∧
    ((serve ws s).1).tick = s.tick ∧ ((serve ws s).1).device = s.device ∧ ((serve ws s).1).startup = s.startup ∧
    ((serve ws s).1).formatRec = s.formatRec ∧ ((serve ws s).1).params = s.params := by
  induction ws generalizing s with
  | nil => simp [serve]
  | cons w ws ih => unfold serve; (try dsimp only); (repeat' split) <;> simp [ih]
@[simp] theorem State.serveWaiters_frame (s : State) :
    ((s.serveWaiters ).1).pending = s.pending ∧ ((s.serveWaiters ).1).resetLow = s.resetLow ∧
    ((s.serveWaiters ).1).miso = s.miso ∧ ((s.serveWaiters ).1).tick = s.tick ∧
    ((s.serveWaiters ).1).device = s.device ∧ ((s.serveWaiters ).1).startup = s.startup ∧
    ((s.serveWaiters ).1).formatRec = s.formatRec ∧ ((s.serveWaiters ).1).params = s.params :=
  by simp [State.serveWaiters]
@[simp] theorem refuseWaiters_frame (ws : List Waiter) (st : Status) (s : State) :
    (ws.foldl (fun t w => t.refuseWaiter w st) s).pending = s.pending ∧
    (ws.foldl (fun t w => t.refuseWaiter w st) s).resetLow = s.resetLow ∧
    (ws.foldl (fun t w => t.refuseWaiter w st) s).miso = s.miso ∧
    (ws.foldl (fun t w => t.refuseWaiter w st) s).tick = s.tick ∧
    (ws.foldl (fun t w => t.refuseWaiter w st) s).device = s.device ∧
    (ws.foldl (fun t w => t.refuseWaiter w st) s).startup = s.startup ∧
    (ws.foldl (fun t w => t.refuseWaiter w st) s).formatRec = s.formatRec ∧
    (ws.foldl (fun t w => t.refuseWaiter w st) s).params = s.params ∧
    (ws.foldl (fun t w => t.refuseWaiter w st) s).counters = s.counters ∧
    (ws.foldl (fun t w => t.refuseWaiter w st) s).map = s.map ∧
    (ws.foldl (fun t w => t.refuseWaiter w st) s).waiters = s.waiters ∧
    (ws.foldl (fun t w => t.refuseWaiter w st) s).units = s.units ∧
    (ws.foldl (fun t w => t.refuseWaiter w st) s).eraseQueues = s.eraseQueues ∧
    (ws.foldl (fun t w => t.refuseWaiter w st) s).holds = s.holds ∧
    (ws.foldl (fun t w => t.refuseWaiter w st) s).moves = s.moves ∧
    (ws.foldl (fun t w => t.refuseWaiter w st) s).ckpt = s.ckpt ∧
    (ws.foldl (fun t w => t.refuseWaiter w st) s).channels = s.channels := by
  induction ws generalizing s with
  | nil => simp
  | cons w ws ih => simp [ih]
@[simp] theorem State.reexamine_frame (s : State) :
    (s.reexamine).pending = s.pending ∧ (s.reexamine).resetLow = s.resetLow ∧ (s.reexamine).miso = s.miso ∧
    (s.reexamine).tick = s.tick ∧ (s.reexamine).device = s.device ∧ (s.reexamine).startup = s.startup ∧
    (s.reexamine).formatRec = s.formatRec ∧ (s.reexamine).params = s.params ∧ (s.reexamine).counters = s.counters ∧
    (s.reexamine).map = s.map ∧ (s.reexamine).units = s.units ∧ (s.reexamine).eraseQueues = s.eraseQueues ∧
    (s.reexamine).holds = s.holds ∧ (s.reexamine).moves = s.moves ∧ (s.reexamine).ckpt = s.ckpt ∧
    (s.reexamine).channels = s.channels := by unfold State.reexamine; (try dsimp only); (repeat' split) <;> simp
@[simp] theorem State.afterAbandon_frame (s : State) (left : List (Fin 4)) :
    (s.afterAbandon left).pending = s.pending ∧ (s.afterAbandon left).resetLow = s.resetLow ∧
    (s.afterAbandon left).miso = s.miso ∧ (s.afterAbandon left).tick = s.tick ∧
    (s.afterAbandon left).device = s.device ∧ (s.afterAbandon left).startup = s.startup ∧
    (s.afterAbandon left).formatRec = s.formatRec ∧ (s.afterAbandon left).params = s.params :=
  by unfold State.afterAbandon; (try dsimp only); (repeat' split) <;> simp
@[simp] theorem State.serveAndReexamine_frame (s : State) :
    (s.serveAndReexamine).pending = s.pending ∧ (s.serveAndReexamine).resetLow = s.resetLow ∧
    (s.serveAndReexamine).miso = s.miso ∧ (s.serveAndReexamine).tick = s.tick ∧
    (s.serveAndReexamine).device = s.device ∧ (s.serveAndReexamine).startup = s.startup ∧
    (s.serveAndReexamine).formatRec = s.formatRec ∧ (s.serveAndReexamine).params = s.params :=
  by simp [State.serveAndReexamine]

/-! ### The channel controllers (Machine/Channels.lean) -/

@[simp] theorem State.issueOp_frame (s : State) (c : Fin 4) (k : OpKind) (o : Owner) :
    (s.issueOp c k o).pending = s.pending ∧ (s.issueOp c k o).resetLow = s.resetLow ∧
    (s.issueOp c k o).miso = s.miso ∧ (s.issueOp c k o).tick = s.tick ∧ (s.issueOp c k o).device = s.device ∧
    (s.issueOp c k o).startup = s.startup ∧ (s.issueOp c k o).formatRec = s.formatRec ∧
    (s.issueOp c k o).params = s.params ∧ (s.issueOp c k o).counters = s.counters ∧ (s.issueOp c k o).map = s.map ∧
    (s.issueOp c k o).waiters = s.waiters ∧ (s.issueOp c k o).units = s.units ∧
    (s.issueOp c k o).eraseQueues = s.eraseQueues ∧ (s.issueOp c k o).holds = s.holds ∧
    (s.issueOp c k o).moves = s.moves ∧ (s.issueOp c k o).ckpt = s.ckpt ∧ (s.issueOp c k o).link = s.link :=
  by simp [State.issueOp]
@[simp] theorem State.endOp_frame (s : State) (c : Fin 4) :
    (s.endOp c).pending = s.pending ∧ (s.endOp c).resetLow = s.resetLow ∧ (s.endOp c).miso = s.miso ∧
    (s.endOp c).tick = s.tick ∧ (s.endOp c).device = s.device ∧ (s.endOp c).startup = s.startup ∧
    (s.endOp c).formatRec = s.formatRec ∧ (s.endOp c).params = s.params ∧ (s.endOp c).counters = s.counters ∧
    (s.endOp c).map = s.map ∧ (s.endOp c).waiters = s.waiters ∧ (s.endOp c).units = s.units ∧
    (s.endOp c).eraseQueues = s.eraseQueues ∧ (s.endOp c).holds = s.holds ∧ (s.endOp c).moves = s.moves ∧
    (s.endOp c).ckpt = s.ckpt ∧ (s.endOp c).link = s.link := by simp [State.endOp]
@[simp] theorem State.issueWork_frame (s : State) (c : Fin 4) (w : Work) :
    (s.issueWork c w).pending = s.pending ∧ (s.issueWork c w).resetLow = s.resetLow ∧
    (s.issueWork c w).miso = s.miso ∧ (s.issueWork c w).tick = s.tick ∧ (s.issueWork c w).device = s.device ∧
    (s.issueWork c w).startup = s.startup ∧ (s.issueWork c w).formatRec = s.formatRec ∧
    (s.issueWork c w).params = s.params ∧ (s.issueWork c w).counters = s.counters ∧ (s.issueWork c w).map = s.map ∧
    (s.issueWork c w).waiters = s.waiters ∧ (s.issueWork c w).holds = s.holds ∧ (s.issueWork c w).ckpt = s.ckpt ∧
    (s.issueWork c w).link = s.link := by cases w <;> simp [State.issueWork]
@[simp] theorem State.arbitrate_frame (s : State) (c : Fin 4) (e : Bool) :
    (s.arbitrate c e).pending = s.pending ∧ (s.arbitrate c e).resetLow = s.resetLow ∧
    (s.arbitrate c e).miso = s.miso ∧ (s.arbitrate c e).tick = s.tick ∧ (s.arbitrate c e).device = s.device ∧
    (s.arbitrate c e).startup = s.startup ∧ (s.arbitrate c e).formatRec = s.formatRec ∧
    (s.arbitrate c e).params = s.params ∧ (s.arbitrate c e).counters = s.counters ∧ (s.arbitrate c e).map = s.map ∧
    (s.arbitrate c e).waiters = s.waiters ∧ (s.arbitrate c e).holds = s.holds ∧ (s.arbitrate c e).ckpt = s.ckpt ∧
    (s.arbitrate c e).link = s.link := by unfold State.arbitrate; (try dsimp only); (repeat' split) <;> simp
@[simp] theorem arbitrateAll_frame (cs : List (Fin 4)) (p : Fin 4 → Bool) (s : State) :
    (cs.foldl (fun t c => t.arbitrate c (p c)) s).pending = s.pending ∧
    (cs.foldl (fun t c => t.arbitrate c (p c)) s).resetLow = s.resetLow ∧
    (cs.foldl (fun t c => t.arbitrate c (p c)) s).miso = s.miso ∧
    (cs.foldl (fun t c => t.arbitrate c (p c)) s).tick = s.tick ∧
    (cs.foldl (fun t c => t.arbitrate c (p c)) s).device = s.device ∧
    (cs.foldl (fun t c => t.arbitrate c (p c)) s).startup = s.startup ∧
    (cs.foldl (fun t c => t.arbitrate c (p c)) s).formatRec = s.formatRec ∧
    (cs.foldl (fun t c => t.arbitrate c (p c)) s).params = s.params ∧
    (cs.foldl (fun t c => t.arbitrate c (p c)) s).counters = s.counters ∧
    (cs.foldl (fun t c => t.arbitrate c (p c)) s).map = s.map ∧
    (cs.foldl (fun t c => t.arbitrate c (p c)) s).waiters = s.waiters ∧
    (cs.foldl (fun t c => t.arbitrate c (p c)) s).holds = s.holds ∧
    (cs.foldl (fun t c => t.arbitrate c (p c)) s).ckpt = s.ckpt ∧
    (cs.foldl (fun t c => t.arbitrate c (p c)) s).link = s.link := by
  induction cs generalizing s with
  | nil => simp
  | cons c cs ih => simp [ih]
@[simp] theorem State.settle_frame (s : State) (e : Option (Fin 4)) :
    (s.settle e).pending = s.pending ∧ (s.settle e).resetLow = s.resetLow ∧ (s.settle e).miso = s.miso ∧
    (s.settle e).tick = s.tick ∧ (s.settle e).device = s.device ∧ (s.settle e).startup = s.startup ∧
    (s.settle e).formatRec = s.formatRec ∧ (s.settle e).params = s.params ∧ (s.settle e).counters = s.counters ∧
    (s.settle e).map = s.map ∧ (s.settle e).waiters = s.waiters ∧ (s.settle e).holds = s.holds ∧
    (s.settle e).ckpt = s.ckpt ∧ (s.settle e).link = s.link := arbitrateAll_frame _ _ s
@[simp] theorem State.endStartup_frame (s : State) (d : DeviceState) (ra rb : SlotResult) (l : Option Slot) (g : Word32) :
    (s.endStartup d ra rb l g).pending = s.pending ∧ (s.endStartup d ra rb l g).resetLow = s.resetLow ∧
    (s.endStartup d ra rb l g).miso = s.miso ∧ (s.endStartup d ra rb l g).tick = s.tick ∧
    (s.endStartup d ra rb l g).formatRec = s.formatRec ∧ (s.endStartup d ra rb l g).params = s.params ∧
    (s.endStartup d ra rb l g).map = s.map ∧ (s.endStartup d ra rb l g).waiters = s.waiters ∧
    (s.endStartup d ra rb l g).units = s.units ∧ (s.endStartup d ra rb l g).eraseQueues = s.eraseQueues ∧
    (s.endStartup d ra rb l g).holds = s.holds ∧ (s.endStartup d ra rb l g).moves = s.moves ∧
    (s.endStartup d ra rb l g).ckpt = s.ckpt ∧ (s.endStartup d ra rb l g).channels = s.channels :=
  by simp [State.endStartup]
@[simp] theorem State.loadImage_frame (s : State) (k : Slot) (bs : List Byte) :
    (s.loadImage k bs).pending = s.pending ∧ (s.loadImage k bs).resetLow = s.resetLow ∧
    (s.loadImage k bs).miso = s.miso ∧ (s.loadImage k bs).tick = s.tick ∧ (s.loadImage k bs).startup = s.startup ∧
    (s.loadImage k bs).formatRec = s.formatRec ∧ (s.loadImage k bs).counters = s.counters ∧
    (s.loadImage k bs).waiters = s.waiters ∧ (s.loadImage k bs).holds = s.holds ∧ (s.loadImage k bs).moves = s.moves ∧
    (s.loadImage k bs).channels = s.channels ∧ (s.loadImage k bs).link = s.link := by simp [State.loadImage]
@[simp] theorem State.judge_frame (s : State) (a b : SlotRead) :
    (s.judge a b).pending = s.pending ∧ (s.judge a b).resetLow = s.resetLow ∧ (s.judge a b).miso = s.miso ∧
    (s.judge a b).tick = s.tick ∧ (s.judge a b).formatRec = s.formatRec ∧ (s.judge a b).waiters = s.waiters ∧
    (s.judge a b).holds = s.holds ∧ (s.judge a b).moves = s.moves ∧ (s.judge a b).channels = s.channels :=
  by unfold State.judge; (try dsimp only); (repeat' split) <;> simp
@[simp] theorem State.startReadB_frame (s : State) (a : SlotRead) :
    (s.startReadB a).pending = s.pending ∧ (s.startReadB a).resetLow = s.resetLow ∧ (s.startReadB a).miso = s.miso ∧
    (s.startReadB a).tick = s.tick ∧ (s.startReadB a).formatRec = s.formatRec ∧ (s.startReadB a).waiters = s.waiters ∧
    (s.startReadB a).holds = s.holds ∧ (s.startReadB a).moves = s.moves :=
  by unfold State.startReadB; (try dsimp only); (repeat' split) <;> simp
@[simp] theorem State.startReadA_frame (s : State) :
    (s.startReadA).pending = s.pending ∧ (s.startReadA).resetLow = s.resetLow ∧ (s.startReadA).miso = s.miso ∧
    (s.startReadA).tick = s.tick ∧ (s.startReadA).formatRec = s.formatRec ∧ (s.startReadA).waiters = s.waiters ∧
    (s.startReadA).holds = s.holds ∧ (s.startReadA).moves = s.moves :=
  by unfold State.startReadA; (try dsimp only); (repeat' split) <;> simp
@[simp] theorem State.readEnds_frame (s : State) (r : SlotRead) :
    (s.readEnds r).pending = s.pending ∧ (s.readEnds r).resetLow = s.resetLow ∧ (s.readEnds r).miso = s.miso ∧
    (s.readEnds r).tick = s.tick ∧ (s.readEnds r).formatRec = s.formatRec ∧ (s.readEnds r).waiters = s.waiters ∧
    (s.readEnds r).holds = s.holds ∧ (s.readEnds r).moves = s.moves :=
  by unfold State.readEnds; (try dsimp only); (repeat' split) <;> simp
@[simp] theorem State.testProbeEnd_frame (s : State) :
    (s.testProbeEnd).pending = s.pending ∧ (s.testProbeEnd).resetLow = s.resetLow ∧ (s.testProbeEnd).miso = s.miso ∧
    (s.testProbeEnd).tick = s.tick ∧ (s.testProbeEnd).formatRec = s.formatRec ∧ (s.testProbeEnd).waiters = s.waiters ∧
    (s.testProbeEnd).holds = s.holds ∧ (s.testProbeEnd).moves = s.moves :=
  by unfold State.testProbeEnd; (try dsimp only); (repeat' split) <;> simp
@[simp] theorem State.probeAbsent_frame (s : State) (c : Fin 4) :
    (s.probeAbsent c).pending = s.pending ∧ (s.probeAbsent c).resetLow = s.resetLow ∧
    (s.probeAbsent c).miso = s.miso ∧ (s.probeAbsent c).tick = s.tick ∧ (s.probeAbsent c).formatRec = s.formatRec ∧
    (s.probeAbsent c).waiters = s.waiters ∧ (s.probeAbsent c).holds = s.holds ∧ (s.probeAbsent c).moves = s.moves :=
  by simp [State.probeAbsent]
@[simp] theorem State.probeIdentifies_frame (s : State) (c : Fin 4) (n : Word16) :
    (s.probeIdentifies c n).pending = s.pending ∧ (s.probeIdentifies c n).resetLow = s.resetLow ∧
    (s.probeIdentifies c n).miso = s.miso ∧ (s.probeIdentifies c n).tick = s.tick ∧
    (s.probeIdentifies c n).formatRec = s.formatRec ∧ (s.probeIdentifies c n).waiters = s.waiters ∧
    (s.probeIdentifies c n).holds = s.holds ∧ (s.probeIdentifies c n).moves = s.moves :=
  by unfold State.probeIdentifies; (try dsimp only); (repeat' split) <;> simp
@[simp] theorem State.placeFormatErase_frame (s : State) (k : Slot) :
    (s.placeFormatErase k).pending = s.pending ∧ (s.placeFormatErase k).resetLow = s.resetLow ∧
    (s.placeFormatErase k).miso = s.miso ∧ (s.placeFormatErase k).tick = s.tick ∧
    (s.placeFormatErase k).startup = s.startup ∧ (s.placeFormatErase k).params = s.params ∧
    (s.placeFormatErase k).counters = s.counters ∧ (s.placeFormatErase k).map = s.map ∧
    (s.placeFormatErase k).waiters = s.waiters ∧ (s.placeFormatErase k).units = s.units ∧
    (s.placeFormatErase k).eraseQueues = s.eraseQueues ∧ (s.placeFormatErase k).holds = s.holds ∧
    (s.placeFormatErase k).moves = s.moves ∧ (s.placeFormatErase k).ckpt = s.ckpt :=
  by unfold State.placeFormatErase; (try dsimp only); (repeat' split) <;> simp
@[simp] theorem State.formatEraseDone_frame (s : State) :
    (s.formatEraseDone).pending = s.pending ∧ (s.formatEraseDone).resetLow = s.resetLow ∧
    (s.formatEraseDone).miso = s.miso ∧ (s.formatEraseDone).tick = s.tick ∧ (s.formatEraseDone).startup = s.startup ∧
    (s.formatEraseDone).params = s.params ∧ (s.formatEraseDone).counters = s.counters ∧
    (s.formatEraseDone).map = s.map ∧ (s.formatEraseDone).waiters = s.waiters ∧ (s.formatEraseDone).units = s.units ∧
    (s.formatEraseDone).eraseQueues = s.eraseQueues ∧ (s.formatEraseDone).holds = s.holds ∧
    (s.formatEraseDone).moves = s.moves := by unfold State.formatEraseDone; (try dsimp only); (repeat' split) <;> simp
@[simp] theorem State.restartFails_frame (s : State) (c : Fin 4) (f : FaultCause) (r : RestartReason) (n : Word16) :
    (s.restartFails c f r n).pending = s.pending ∧ (s.restartFails c f r n).resetLow = s.resetLow ∧
    (s.restartFails c f r n).miso = s.miso ∧ (s.restartFails c f r n).tick = s.tick ∧
    (s.restartFails c f r n).device = s.device ∧ (s.restartFails c f r n).startup = s.startup ∧
    (s.restartFails c f r n).formatRec = s.formatRec ∧ (s.restartFails c f r n).params = s.params ∧
    (s.restartFails c f r n).counters = s.counters ∧ (s.restartFails c f r n).map = s.map ∧
    (s.restartFails c f r n).units = s.units ∧ (s.restartFails c f r n).eraseQueues = s.eraseQueues ∧
    (s.restartFails c f r n).holds = s.holds ∧ (s.restartFails c f r n).moves = s.moves ∧
    (s.restartFails c f r n).ckpt = s.ckpt := by unfold State.restartFails; (try dsimp only); (repeat' split) <;> simp
@[simp] theorem State.restartSucceeds_frame (s : State) (c : Fin 4) :
    (s.restartSucceeds c).pending = s.pending ∧ (s.restartSucceeds c).resetLow = s.resetLow ∧
    (s.restartSucceeds c).miso = s.miso ∧ (s.restartSucceeds c).tick = s.tick ∧
    (s.restartSucceeds c).device = s.device ∧ (s.restartSucceeds c).startup = s.startup ∧
    (s.restartSucceeds c).formatRec = s.formatRec ∧ (s.restartSucceeds c).params = s.params :=
  by unfold State.restartSucceeds; (try dsimp only); (repeat' split) <;> simp
@[simp] theorem State.restartIdentifies_frame (s : State) (c : Fin 4) (n : Word16) :
    (s.restartIdentifies c n).pending = s.pending ∧ (s.restartIdentifies c n).resetLow = s.resetLow ∧
    (s.restartIdentifies c n).miso = s.miso ∧ (s.restartIdentifies c n).tick = s.tick ∧
    (s.restartIdentifies c n).device = s.device ∧ (s.restartIdentifies c n).startup = s.startup ∧
    (s.restartIdentifies c n).formatRec = s.formatRec ∧ (s.restartIdentifies c n).params = s.params :=
  by unfold State.restartIdentifies; (try dsimp only); (repeat' split) <;> simp
@[simp] theorem State.loseInFlight_frame (s : State) (c : Fin 4) (o : Op) :
    (s.loseInFlight c o).pending = s.pending ∧ (s.loseInFlight c o).resetLow = s.resetLow ∧
    (s.loseInFlight c o).miso = s.miso ∧ (s.loseInFlight c o).tick = s.tick ∧
    (s.loseInFlight c o).waiters = s.waiters ∧ (s.loseInFlight c o).holds = s.holds :=
  by unfold State.loseInFlight; (try dsimp only); (repeat' split) <;> simp
@[simp] theorem State.losePending_frame (s : State) (w : Option ImageWork) :
    (s.losePending w).pending = s.pending ∧ (s.losePending w).resetLow = s.resetLow ∧
    (s.losePending w).miso = s.miso ∧ (s.losePending w).tick = s.tick ∧ (s.losePending w).waiters = s.waiters ∧
    (s.losePending w).holds = s.holds := by unfold State.losePending; (try dsimp only); (repeat' split) <;> simp
@[simp] theorem State.faultChannel_frame (s : State) (c : Fin 4) (f : FaultCause) (o : Op) :
    (s.faultChannel c f o).pending = s.pending ∧ (s.faultChannel c f o).resetLow = s.resetLow ∧
    (s.faultChannel c f o).miso = s.miso ∧ (s.faultChannel c f o).tick = s.tick ∧
    (s.faultChannel c f o).holds = s.holds := by simp [State.faultChannel]
@[simp] theorem State.loseOperation_frame (s : State) (c : Fin 4) (o : Op) (f : FaultCause) (r : RestartReason) :
    (s.loseOperation c o f r).pending = s.pending ∧ (s.loseOperation c o f r).resetLow = s.resetLow ∧
    (s.loseOperation c o f r).miso = s.miso ∧ (s.loseOperation c o f r).tick = s.tick ∧
    (s.loseOperation c o f r).holds = s.holds :=
  by unfold State.loseOperation; (try dsimp only); (repeat' split) <;> simp
@[simp] theorem State.afterErase_frame (s : State) (c : Fin 4) :
    (s.afterErase c).pending = s.pending ∧ (s.afterErase c).resetLow = s.resetLow ∧ (s.afterErase c).miso = s.miso ∧
    (s.afterErase c).tick = s.tick ∧ (s.afterErase c).device = s.device ∧ (s.afterErase c).startup = s.startup ∧
    (s.afterErase c).formatRec = s.formatRec ∧ (s.afterErase c).params = s.params := by simp [State.afterErase]
@[simp] theorem State.eraseOutcome_frame (s : State) (g : Nat) :
    (s.eraseOutcome g).pending = s.pending ∧ (s.eraseOutcome g).resetLow = s.resetLow ∧
    (s.eraseOutcome g).miso = s.miso ∧ (s.eraseOutcome g).tick = s.tick ∧ (s.eraseOutcome g).device = s.device ∧
    (s.eraseOutcome g).startup = s.startup ∧ (s.eraseOutcome g).formatRec = s.formatRec ∧
    (s.eraseOutcome g).params = s.params ∧ (s.eraseOutcome g).map = s.map ∧ (s.eraseOutcome g).waiters = s.waiters ∧
    (s.eraseOutcome g).eraseQueues = s.eraseQueues ∧ (s.eraseOutcome g).holds = s.holds ∧
    (s.eraseOutcome g).moves = s.moves ∧ (s.eraseOutcome g).ckpt = s.ckpt ∧
    (s.eraseOutcome g).channels = s.channels :=
  by unfold State.eraseOutcome; (try dsimp only); (repeat' split) <;> simp
@[simp] theorem State.unitEraseDone_frame (s : State) (c : Fin 4) (i : Nat) :
    (s.unitEraseDone c i).pending = s.pending ∧ (s.unitEraseDone c i).resetLow = s.resetLow ∧
    (s.unitEraseDone c i).miso = s.miso ∧ (s.unitEraseDone c i).tick = s.tick ∧
    (s.unitEraseDone c i).device = s.device ∧ (s.unitEraseDone c i).startup = s.startup ∧
    (s.unitEraseDone c i).formatRec = s.formatRec ∧ (s.unitEraseDone c i).params = s.params :=
  by simp [State.unitEraseDone]
@[simp] theorem State.unitEraseFails_frame (s : State) (c : Fin 4) (i : Nat) :
    (s.unitEraseFails c i).pending = s.pending ∧ (s.unitEraseFails c i).resetLow = s.resetLow ∧
    (s.unitEraseFails c i).miso = s.miso ∧ (s.unitEraseFails c i).tick = s.tick ∧
    (s.unitEraseFails c i).device = s.device ∧ (s.unitEraseFails c i).startup = s.startup ∧
    (s.unitEraseFails c i).formatRec = s.formatRec ∧ (s.unitEraseFails c i).params = s.params :=
  by simp [State.unitEraseFails]
@[simp] theorem State.afterMove_frame (s : State) (c : Fin 4) :
    (s.afterMove c).pending = s.pending ∧ (s.afterMove c).resetLow = s.resetLow ∧ (s.afterMove c).miso = s.miso ∧
    (s.afterMove c).tick = s.tick ∧ (s.afterMove c).device = s.device ∧ (s.afterMove c).startup = s.startup ∧
    (s.afterMove c).formatRec = s.formatRec ∧ (s.afterMove c).params = s.params ∧
    (s.afterMove c).counters = s.counters ∧ (s.afterMove c).waiters = s.waiters ∧ (s.afterMove c).holds = s.holds ∧
    (s.afterMove c).ckpt = s.ckpt ∧ (s.afterMove c).link = s.link := by simp [State.afterMove]
@[simp] theorem State.copySucceeds_frame (s : State) (c : Fin 4) :
    (s.copySucceeds c).pending = s.pending ∧ (s.copySucceeds c).resetLow = s.resetLow ∧
    (s.copySucceeds c).miso = s.miso ∧ (s.copySucceeds c).tick = s.tick ∧ (s.copySucceeds c).device = s.device ∧
    (s.copySucceeds c).startup = s.startup ∧ (s.copySucceeds c).formatRec = s.formatRec ∧
    (s.copySucceeds c).params = s.params ∧ (s.copySucceeds c).waiters = s.waiters ∧
    (s.copySucceeds c).holds = s.holds := by unfold State.copySucceeds; (try dsimp only); (repeat' split) <;> simp
@[simp] theorem State.copyFailsProgram_frame (s : State) (c : Fin 4) :
    (s.copyFailsProgram c).pending = s.pending ∧ (s.copyFailsProgram c).resetLow = s.resetLow ∧
    (s.copyFailsProgram c).miso = s.miso ∧ (s.copyFailsProgram c).tick = s.tick ∧
    (s.copyFailsProgram c).device = s.device ∧ (s.copyFailsProgram c).startup = s.startup ∧
    (s.copyFailsProgram c).formatRec = s.formatRec ∧ (s.copyFailsProgram c).params = s.params ∧
    (s.copyFailsProgram c).waiters = s.waiters ∧ (s.copyFailsProgram c).holds = s.holds ∧
    (s.copyFailsProgram c).ckpt = s.ckpt :=
  by unfold State.copyFailsProgram; (try dsimp only); (repeat' split) <;> simp
@[simp] theorem State.copyFailsRead_frame (s : State) (c : Fin 4) :
    (s.copyFailsRead c).pending = s.pending ∧ (s.copyFailsRead c).resetLow = s.resetLow ∧
    (s.copyFailsRead c).miso = s.miso ∧ (s.copyFailsRead c).tick = s.tick ∧ (s.copyFailsRead c).device = s.device ∧
    (s.copyFailsRead c).startup = s.startup ∧ (s.copyFailsRead c).formatRec = s.formatRec ∧
    (s.copyFailsRead c).params = s.params ∧ (s.copyFailsRead c).waiters = s.waiters ∧
    (s.copyFailsRead c).holds = s.holds ∧ (s.copyFailsRead c).ckpt = s.ckpt :=
  by unfold State.copyFailsRead; (try dsimp only); (repeat' split) <;> simp
@[simp] theorem State.slotErased_frame (s : State) (c : Fin 4) :
    (s.slotErased c).pending = s.pending ∧ (s.slotErased c).resetLow = s.resetLow ∧ (s.slotErased c).miso = s.miso ∧
    (s.slotErased c).tick = s.tick ∧ (s.slotErased c).startup = s.startup ∧ (s.slotErased c).params = s.params ∧
    (s.slotErased c).map = s.map ∧ (s.slotErased c).waiters = s.waiters ∧ (s.slotErased c).holds = s.holds :=
  by unfold State.slotErased; (try dsimp only); (repeat' split) <;> simp
@[simp] theorem State.slotEraseFails_frame (s : State) (c : Fin 4) :
    (s.slotEraseFails c).pending = s.pending ∧ (s.slotEraseFails c).resetLow = s.resetLow ∧
    (s.slotEraseFails c).miso = s.miso ∧ (s.slotEraseFails c).tick = s.tick ∧
    (s.slotEraseFails c).startup = s.startup ∧ (s.slotEraseFails c).params = s.params ∧
    (s.slotEraseFails c).map = s.map ∧ (s.slotEraseFails c).holds = s.holds := by simp [State.slotEraseFails]
@[simp] theorem State.imageWritten_frame (s : State) (c : Fin 4) :
    (s.imageWritten c).pending = s.pending ∧ (s.imageWritten c).resetLow = s.resetLow ∧
    (s.imageWritten c).miso = s.miso ∧ (s.imageWritten c).tick = s.tick ∧ (s.imageWritten c).startup = s.startup ∧
    (s.imageWritten c).params = s.params ∧ (s.imageWritten c).map = s.map ∧ (s.imageWritten c).holds = s.holds :=
  by simp [State.imageWritten]
@[simp] theorem State.imageWriteFails_frame (s : State) (c : Fin 4) :
    (s.imageWriteFails c).pending = s.pending ∧ (s.imageWriteFails c).resetLow = s.resetLow ∧
    (s.imageWriteFails c).miso = s.miso ∧ (s.imageWriteFails c).tick = s.tick ∧
    (s.imageWriteFails c).startup = s.startup ∧ (s.imageWriteFails c).params = s.params ∧
    (s.imageWriteFails c).map = s.map ∧ (s.imageWriteFails c).holds = s.holds := by simp [State.imageWriteFails]
@[simp] theorem State.readReplies_frame (s : State) (c : Fin 4) (r : SlotRead) :
    (s.readReplies c r).pending = s.pending ∧ (s.readReplies c r).resetLow = s.resetLow ∧
    (s.readReplies c r).miso = s.miso ∧ (s.readReplies c r).tick = s.tick ∧
    (s.readReplies c r).formatRec = s.formatRec ∧ (s.readReplies c r).waiters = s.waiters ∧
    (s.readReplies c r).holds = s.holds := by simp [State.readReplies]
@[simp] theorem State.formatSlotErased_frame (s : State) (c : Fin 4) :
    (s.formatSlotErased c).pending = s.pending ∧ (s.formatSlotErased c).resetLow = s.resetLow ∧
    (s.formatSlotErased c).miso = s.miso ∧ (s.formatSlotErased c).tick = s.tick ∧
    (s.formatSlotErased c).startup = s.startup ∧ (s.formatSlotErased c).params = s.params ∧
    (s.formatSlotErased c).counters = s.counters ∧ (s.formatSlotErased c).map = s.map ∧
    (s.formatSlotErased c).waiters = s.waiters ∧ (s.formatSlotErased c).holds = s.holds :=
  by simp [State.formatSlotErased]
@[simp] theorem State.formatSlotEraseFails_frame (s : State) (c : Fin 4) :
    (s.formatSlotEraseFails c).pending = s.pending ∧ (s.formatSlotEraseFails c).resetLow = s.resetLow ∧
    (s.formatSlotEraseFails c).miso = s.miso ∧ (s.formatSlotEraseFails c).tick = s.tick ∧
    (s.formatSlotEraseFails c).startup = s.startup ∧ (s.formatSlotEraseFails c).params = s.params ∧
    (s.formatSlotEraseFails c).counters = s.counters ∧ (s.formatSlotEraseFails c).map = s.map ∧
    (s.formatSlotEraseFails c).waiters = s.waiters ∧ (s.formatSlotEraseFails c).holds = s.holds ∧
    (s.formatSlotEraseFails c).ckpt = s.ckpt := by simp [State.formatSlotEraseFails]
@[simp] theorem State.probeResets_frame (s : State) (c : Fin 4) :
    (s.probeResets c).pending = s.pending ∧ (s.probeResets c).resetLow = s.resetLow ∧
    (s.probeResets c).miso = s.miso ∧ (s.probeResets c).tick = s.tick ∧ (s.probeResets c).device = s.device ∧
    (s.probeResets c).startup = s.startup ∧ (s.probeResets c).formatRec = s.formatRec ∧
    (s.probeResets c).params = s.params ∧ (s.probeResets c).counters = s.counters ∧ (s.probeResets c).map = s.map ∧
    (s.probeResets c).waiters = s.waiters ∧ (s.probeResets c).units = s.units ∧
    (s.probeResets c).eraseQueues = s.eraseQueues ∧ (s.probeResets c).holds = s.holds ∧
    (s.probeResets c).moves = s.moves ∧ (s.probeResets c).ckpt = s.ckpt ∧ (s.probeResets c).link = s.link :=
  by simp [State.probeResets]
@[simp] theorem State.restartResets_frame (s : State) (c : Fin 4) :
    (s.restartResets c).pending = s.pending ∧ (s.restartResets c).resetLow = s.resetLow ∧
    (s.restartResets c).miso = s.miso ∧ (s.restartResets c).tick = s.tick ∧ (s.restartResets c).device = s.device ∧
    (s.restartResets c).startup = s.startup ∧ (s.restartResets c).formatRec = s.formatRec ∧
    (s.restartResets c).params = s.params ∧ (s.restartResets c).counters = s.counters ∧
    (s.restartResets c).map = s.map ∧ (s.restartResets c).waiters = s.waiters ∧ (s.restartResets c).units = s.units ∧
    (s.restartResets c).eraseQueues = s.eraseQueues ∧ (s.restartResets c).holds = s.holds ∧
    (s.restartResets c).moves = s.moves ∧ (s.restartResets c).ckpt = s.ckpt ∧ (s.restartResets c).link = s.link :=
  by simp [State.restartResets]
@[simp] theorem State.strayReply_frame (s : State) :
    (s.strayReply).pending = s.pending ∧ (s.strayReply).resetLow = s.resetLow ∧ (s.strayReply).miso = s.miso ∧
    (s.strayReply).tick = s.tick ∧ (s.strayReply).device = s.device ∧ (s.strayReply).startup = s.startup ∧
    (s.strayReply).formatRec = s.formatRec ∧ (s.strayReply).params = s.params ∧ (s.strayReply).map = s.map ∧
    (s.strayReply).waiters = s.waiters ∧ (s.strayReply).units = s.units ∧ (s.strayReply).eraseQueues = s.eraseQueues ∧
    (s.strayReply).holds = s.holds ∧ (s.strayReply).moves = s.moves ∧ (s.strayReply).ckpt = s.ckpt ∧
    (s.strayReply).channels = s.channels ∧ (s.strayReply).link = s.link := by simp [State.strayReply]
@[simp] theorem State.handReply_frame (s : State) (c : Fin 4) (o : Op) (r : Reply) :
    (s.handReply c o r).pending = s.pending ∧ (s.handReply c o r).resetLow = s.resetLow ∧
    (s.handReply c o r).miso = s.miso ∧ (s.handReply c o r).tick = s.tick :=
  by unfold State.handReply; (try dsimp only); (repeat' split) <;> simp
@[simp] theorem State.replyArrives_frame (s : State) (c : Fin 4) (r : Reply) :
    (s.replyArrives c r).pending = s.pending ∧ (s.replyArrives c r).resetLow = s.resetLow ∧
    (s.replyArrives c r).miso = s.miso ∧ (s.replyArrives c r).tick = s.tick :=
  by unfold State.replyArrives; (try dsimp only); (repeat' split) <;> simp

/-! ### The lengths of what the link shifts out -/

@[simp] theorem zeros_length (n : Nat) : (zeros n).length = n := by simp [zeros]

@[simp] theorem Record.bytes_length (r : Record) : r.bytes.length = 12 := rfl

@[simp] theorem Link.fetchBytes_length (l : Link) : l.fetchBytes.length = 12 := by
  unfold Link.fetchBytes; split <;> simp

@[simp] theorem State.statusBlock_length (s : State) : s.statusBlock.length = 32 := by
  simp [State.statusBlock, State.tableField, le16, le32]

@[simp] theorem State.shiftOut_miso_length (s : State) (bs : List Byte) : (s.shiftOut bs).miso.length = bs.length := by
  unfold State.shiftOut State.setMiso; dsimp only; split <;> simp

end Sys2Proof.Machine
end

