-- ==== Sys2Proof/Tests/Slice0.lean ====
section
/-! SUPPORT. Tests on small states: the check of WellFormed, the encodings written out from spec/, one step of each
command, and for each statement with hypotheses a state that meets them. Expected values come from the spec's tables and
worked examples, or from hand calculation by its rules. -/
namespace Sys2Proof.Tests
open Sys2Proof Sys2Proof.Machine
set_option Elab.async false

/-! ### Small states -/

def on (n : Nat) : Channel := ⟨.online, n, none, none, none, none⟩
def gone : Channel := ⟨.absent, 0, none, none, none, none⟩

/-- Two channels of 64 units, READY, with one unit of most states (L = 4; hold slots 0 and 63 in use). -/
def base : State := { State.reset with
  resetLow := false
  device := .ready
  startup := ⟨.ended, none⟩
  channels := #v[on 64, on 64, gone, gone]
  units := [(1, ⟨.free, 3, 0, false⟩), (2, ⟨.bound 0, 5, 0, false⟩), (3, ⟨.dirty, 1, 0, false⟩),
    (4, ⟨.waiting, 7, 0, false⟩), (5, ⟨.retired .worn, 3000, 0, false⟩), (6, ⟨.bound 1, 2, 1, false⟩),
    (7, ⟨.draining, 9, 1, false⟩), (8, ⟨.free, 9, 0, false⟩), (1025, ⟨.free, 0, 0, false⟩),
    (1026, ⟨.bound 2, 6, 0, false⟩)]
  eraseQueues := #v[[3], [], [], []]
  map := [⟨some 2, 4, none⟩, ⟨some 6, 65535, none⟩, ⟨some 1026, 0, none⟩, ⟨none, 9, none⟩]
  holds := ((Vector.replicate 64 ⟨0, none⟩).set 0 ⟨1, some ⟨1, 6, 1, 65535, 0, 2000⟩⟩).set 63
    ⟨255, some ⟨255, 7, 0, 3, 0, 65535⟩⟩
  ckpt := ⟨7, some .a, [4], [], none⟩ }

/-- The device in another state, without holds, their units let go. -/
def inState (d : DeviceState) : State := { base with
  device := d
  holds := Vector.replicate 64 ⟨0, none⟩
  units := base.units.map fun p => (p.1, { p.2 with
    holds := 0, state := if p.2.state = .draining then .retired .worn else p.2.state }) }

/-- No unit table: UNFORMATTED, or FAILED for want of media or of geometry. -/
def bare (d : DeviceState) : State := { State.reset with
  resetLow := false, device := d, startup := ⟨.ended, none⟩, channels := #v[on 64, on 64, gone, gone] }

/-- A request frame: code, tag, flags, selector, arguments A and B. -/
def fr (code tag flags sel : Byte) (a b : Word16) : Frame := ⟨code, tag, flags, sel, a, b⟩

/-- The frame of an open request at the head of the intake list. -/
def asks (s : State) (f : Frame) : State :=
  { s with link := { s.link with openTags := s.link.openTags ++ [f.tag], intake := f :: s.link.intake } }

def flies (s : State) (c : Fin 4) (k : OpKind) (o : Owner) : State :=
  { s with channels := s.channels.set c { s.channels[c] with inFlight := some ⟨k, o, s.tick⟩ } }

/-- Unit 3 is being erased; its wear and mark are given. -/
def erasing (w : Word16) (mark : Bool) : State := flies { base with
  eraseQueues := Vector.replicate 4 []
  units := modifyIn base.units 3 fun _ => ⟨.erasing, w, 0, mark⟩ } 0 (.erase 3) .unitManager

/-- The host move of logical 0 from unit 2 to unit 1 (tag 0x81), in a phase. -/
def moving (p : MovePhase) : State :=
  let s : State := { base with
    units := modifyIn base.units 1 fun u => { u with state := .target 0 }
    moves := base.moves.set 0 (some ⟨0, 2, 1, .host 0x81, p, 0⟩)
    map := if p = .abandoning then base.map else base.map.set 0 ⟨some 2, 4, some 0⟩
    link := { base.link with openTags := [0x81] } }
  if p = .assigned then s else flies s 0 (.copy 2 1) .relocation

/-- The host checkpoint (tag 0x92) of generation 8 to slot B, with its operation in flight. -/
def saving (p : CkptPhase) : State := flies { base with
  ckpt := { base.ckpt with flight := some ⟨p, .host 0x92, .b, base.takeSnapshot .b⟩ }
  link := { base.link with openTags := [0x92] } } 1
  (if p = .writing then .writeImage 0 [] else .erase 0) .checkpoint

/-- The FORMAT of tag 0x0D taken in UNFORMATTED, with the slot erase of its step in flight. -/
def formatting (p : FormatStep) : State :=
  let s : State := { bare .formatting with
    formatRec := some ⟨.host 0x0D, 20, 8, false, .unformatted, p⟩
    link := { State.reset.link with openTags := [0x0D] } }
  match p with
  | .eraseB => flies s 1 (.erase 0) .stateControl
  | .eraseA => flies s 0 (.erase 0) .stateControl
  | .imageWrite => s

/-- Start-up in its reads, with the read of a slot in flight. -/
def reading (p : StartStage) : State :=
  let s : State := { bare .starting with startup := ⟨p, if p = .readingB then some .unread else none⟩ }
  flies s (if p = .readingB then 1 else 0) (.readImage 0) .stateControl

/-- The probe of channel 3 in progress, the others ended. -/
def probing (k : OpKind) : State := flies { bare .starting with
  startup := ⟨.probing, none⟩
  channels := #v[on 64, on 64, gone, Channel.afterReset] } 3 k .stateControl

/-- Channel 1 RESTARTING for tag 0x74 after a fault of cause DEADLINE. -/
def restarting (k : OpKind) : State := { inState .service with
  channels := #v[on 64, ⟨.restarting, 64, some ⟨k, .restart, 0⟩, none, some .deadline, some (.host 0x74)⟩, gone, gone]
  link := { State.reset.link with openTags := [0x74] } }

def after (i : Instr) (s : State) : State :=
  match exec i s with
  | .next t => t
  | .fault _ => s
  | .refused _ => s

/-- The last record queued after a command. -/
def answer (i : Instr) (s : State) : Option Record := (after i s).link.queue.getLast?

/-! ### Helpers of the witnesses -/

theorem all_some {α : Type} {o : Option α} {P : α → Prop} [DecidablePred P]
    (h : o.all (fun a => decide (P a)) = true) : ∀ a, o = some a → P a := by
  intro a e; subst e; simpa using h

theorem all_units {s : State} {P : Nat → UnitRec → Prop} [∀ x v, Decidable (P x v)]
    (h : s.units.all (fun p => decide (P p.1 p.2)) = true) : ∀ x v, s.unit? x = some v → P x v := by
  intro x v e
  have key : ∀ l : List (Nat × UnitRec), l.all (fun p => decide (P p.1 p.2)) = true → l.lookup x = some v → P x v := by
    intro l
    induction l with
    | nil => intro _ e; simp at e
    | cons p l ih =>
      obtain ⟨y, w⟩ := p
      intro h e
      simp only [List.all_cons, Bool.and_eq_true, decide_eq_true_eq] at h
      rw [List.lookup_cons] at e
      split at e
      · rename_i hx
        have hx := beq_iff_eq.1 hx
        cases e; subst hx; exact h.1
      · exact ih h.2 e
  exact key s.units h e

theorem linkInv_of {s : State} (h : s.link.openTags.length ≤ 16 ∧
    s.link.openTags.length + s.link.queue.length ≤ 32 ∧ s.link.openTags.Nodup ∧ (0 : Byte) ∉ s.link.openTags ∧
    (∀ k : Fin 7, (s.link.notices[k]).isSome = true → s.link.openTags.length + s.link.queue.length = 32) ∧
    ∀ k : Fin 7, (s.link.notices[k]).all (fun p => decide (p.count ≠ 0)) = true) : LinkInv s :=
  ⟨h.1, h.2.1, h.2.2.1, h.2.2.2.1, h.2.2.2.2.1, fun k => all_some (h.2.2.2.2.2 k)⟩

theorem holdInv_of {s : State} (h : ∀ i : Fin 64,
    (s.holds[i]).entry.all (fun e => decide (e.sequence = (s.holds[i]).seq ∧ e.sequence ≠ 0)) = true) : HoldInv s :=
  fun i => all_some (h i)

/-! ### The check of WellFormed, and encodings -/

/-- R154: kinds 0x01 to 0x04 are known; 0x00 and 0x05 are not. -/
theorem test_wellFormed_refuses_known_kind : (∀ k : Byte, (1 ≤ k ∧ k ≤ 4) →
    (Instr.transactionDiscarded (.unknownKind k 0)).wellFormed = false) ∧
    (Instr.transactionDiscarded (.unknownKind 0 3)).wellFormed = true ∧
    (Instr.transactionDiscarded (.unknownKind 5 3)).wellFormed = true := by decide +kernel

/-- R155, frame table: SET_PARAMETER (0x0F), tag 0x02, selector 3 (W_spread), argument A 5000 = 0x1388 (9.6, step 3). -/
theorem test_decode_setParameter_frame :
    decodeFrame ⟨0x0F, 0x02, 0x00, 0x03, 0x88, 0x13, 0x00, 0x00⟩ = fr 0x0F 0x02 0 3 5000 0 ∧
    decodeReqCode 0x0F = some .setParameter ∧ decodeReqCode 0x00 = none ∧ decodeReqCode 0x12 = none := by decide +kernel

/-- R155, frame table: FORMAT (0x0D), flag bit 0 KEEP_WEAR, L 1900 = 0x076C in argument A, S_min 40 in argument B. -/
theorem test_decode_format_frame :
    decodeFrame ⟨0x0D, 0x03, 0x01, 0x00, 0x6C, 0x07, 0x28, 0x00⟩ = fr 0x0D 0x03 1 0 1900 40 ∧
    (fr 0x0D 0x03 1 0 1900 40).flag0 = true := by decide +kernel

/-- R154, the table of kinds, by the bytes that came in: a transaction without a whole byte; a STATUS cut short at once; a
FETCH with one byte more than its twelve; a REQUEST with its turnaround byte, whose frame is a CHECKPOINT of tag 0x92; a
LINK RESET; the kind bytes 0x00 and 0x05. -/
theorem test_transactionOf : transactionOf [] = none ∧ transactionOf [3] = some (.transactionDiscarded (.cutStatus 0)) ∧
    transactionOf (2 :: zeros 13) = some (.fetch 1) ∧
    transactionOf [1, 9, 0x92, 0, 0, 0, 0, 0, 0, 0] = some (.request ⟨9, 0x92, 0, 0, 0, 0, 0, 0⟩ 1) ∧
    transactionOf [4] = some (.linkReset 0) ∧ transactionOf [0, 1] = some (.transactionDiscarded (.unknownKind 0 1)) ∧
    transactionOf [5] = some (.transactionDiscarded (.unknownKind 5 0)) := by decide +kernel

/-- R114: the check value of the CRC-32 with this polynomial and convention, over the bytes "123456789". -/
theorem test_crc32_check_value :
    crc32 [0x31, 0x32, 0x33, 0x34, 0x35, 0x36, 0x37, 0x38, 0x39] = 0xCBF43926 := by decide +kernel

/-- Section 3.1's worked deadline across the wrap: set at 4294966296 with length 2000, it passes at tick 1000. -/
theorem test_deadline_wraps : deadlinePassed 999 4294966296 2000 = false ∧ deadlinePassed 1000 4294966296 2000 = true := by
  decide +kernel

/-- R118's deadlines. -/
theorem test_operation_deadlines : OpKind.identify.deadline = 100 ∧ OpKind.reset.deadline = 1000 ∧
    (OpKind.erase 0).deadline = 40 ∧ (OpKind.copy 0 1).deadline = 120 ∧ (OpKind.readImage 0).deadline = 200 ∧
    (OpKind.writeImage 0 []).deadline = 400 := by decide +kernel

/-- The base state and its variants obey the law of the tables. -/
theorem test_states_lawful : base.lawful = true ∧ (erasing 1 false).lawful = true ∧ (moving .assigned).lawful = true ∧
    (moving .copying).lawful = true ∧ (moving .abandoning).lawful = true ∧ (saving .writing).lawful = true ∧
    (inState .service).lawful = true ∧ (formatting .eraseA).lawful = true ∧ (reading .readingB).lawful = true ∧
    (probing .identify).lawful = true ∧ (restarting .reset).lawful = true := by decide +kernel

/-! ### One step of each command -/

theorem test_hardwareReset : (after .hardwareReset base).device = .starting ∧ (after .hardwareReset base).units = [] ∧
    (after .hardwareReset base).params.eMax = 3000 := by decide +kernel

theorem test_resetNRelease : (after .resetNRelease State.reset).channels[3].inFlight = some ⟨.reset, .stateControl, 0⟩ ∧
    (after .resetNRelease State.reset).resetLow = false := by decide +kernel

theorem test_tick_wraps : (after .tick { base with tick := 0xFFFFFFFF }).tick = 0 := by decide +kernel

/-- R63: not before the lifetime has run out; then unit 7, DRAINING with its last hold gone, is released to DIRTY (R29). -/
theorem test_holdExpiry : after (.holdExpiry 63) { base with tick := 65534 } = { base with tick := 65534 } ∧
    (after (.holdExpiry 63) { base with tick := 65535 }).stateOf 7 = some .dirty ∧
    (after (.holdExpiry 63) { base with tick := 65535 }).link.queue = [⟨0, 2, 0, 1, 0x3FFF, 7, 0, 3⟩] := by decide +kernel

/-- R118, R127, R40: an ERASE is lost at 40 ticks, and its unit heads the queue of the FAULTED channel. -/
theorem test_operationDeadline :
    after (.operationDeadline 0) { erasing 1 false with tick := 39 } = { erasing 1 false with tick := 39 } ∧
    (after (.operationDeadline 0) { erasing 1 false with tick := 40 }).channels[0].state = .faulted ∧
    (after (.operationDeadline 0) { erasing 1 false with tick := 40 }).eraseQueues[0] = [3] := by decide +kernel

/-- R155: BAD_FRAME, TAG_IN_USE and ACCEPTED in the turnaround byte. -/
theorem test_request : (after (.request ⟨1, 0, 0, 0, 0, 0, 0, 0⟩ 1) base).miso = zeros 9 ++ [3] ∧
    (after (.request ⟨1, 0x81, 0, 0, 0, 0, 0, 0⟩ 2) (moving .copying)).miso = zeros 9 ++ [2, 0] ∧
    (after (.request ⟨1, 0x82, 0, 0, 0, 0, 0, 0⟩ 0) (moving .copying)).link.openTags = [0x81, 0x82] := by decide +kernel

theorem test_fetch : (after (.fetch 0) base).miso = zeros 13 ∧
    (after (.fetch 1) { base with link := { base.link with queue := [⟨7, 1, 0, 1, 0x0BB8, 30, 0x0302, 0⟩] } }).miso =
      [0, 7, 1, 0, 1, 0xB8, 0x0B, 30, 0, 2, 3, 0, 0, 0] := by decide +kernel

/-- R166: bytes 0 (READY), 6, 10-11 (FREE), 14-15 (WAITING), 18-19 (spare count 128 − 2 − 1 − 4 = 121), 20 (holds),
22-25 (channel states), 26-30 (durable generation and slot). -/
theorem test_status : (after (.status 0) base).miso = [0, 3, 0, 0, 0, 0, 0, 0, 0, 0, 0, 3, 0, 1, 0, 1, 0, 1, 0, 121, 0,
    2, 0, 1, 1, 4, 4, 7, 0, 0, 0, 0, 0] := by decide +kernel

/-- R168: two holds removed and one LINK RESET counted (counters 6 and 17); unit 7 is released. -/
theorem test_linkReset : (after (.linkReset 0) base).counters[5] = 2 ∧ (after (.linkReset 0) base).counters[16] = 1 ∧
    (after (.linkReset 0) base).holdsInUse = 0 ∧
    ((after (.linkReset 0) (moving .copying)).moves[0].map (·.origin)) = some .orphaned := by decide +kernel

theorem test_transactionDiscarded :
    (after (.transactionDiscarded (.cutRequest 7)) base).counters[15] = 1 ∧
    (after (.transactionDiscarded (.cutRequest 7)) base).miso = zeros 8 ∧
    exec (.transactionDiscarded (.unknownKind 4 0)) base = .fault .illFormedCommand := by
  refine ⟨by decide +kernel, by decide +kernel, rfl⟩

/-- R9: an UNBOUND logical; R10, R58: a hold on logical 0 takes slot 1 with sequence 1, handle 0x0101. -/
theorem test_lookup : answer .lookup (asks base (fr 1 9 0 0 3 0)) = some ⟨9, 1, 0, 0, 0xFFFF, 9, 0, 0⟩ ∧
    answer .lookup (asks base (fr 1 9 1 0 0 0)) = some ⟨9, 1, 0, 1, 2, 4, 0x0101, 0⟩ := by decide +kernel

/-- R12, R34: unit 1025 of wear 0 is the least-worn FREE unit; R4: 65535 is followed by 0. -/
theorem test_bind : answer .bind (asks base (fr 2 9 0 0 1 0)) = some ⟨9, 2, 0, 0, 1025, 0, 0, 0⟩ ∧
    (after .bind (asks base (fr 2 9 0 0 1 0))).stateOf 6 = some .draining := by decide +kernel

theorem test_unbind : answer .unbind (asks base (fr 3 9 0 0 0 0)) = some ⟨9, 3, 0, 0, 0xFFFF, 5, 0, 0⟩ ∧
    answer .unbind (asks base (fr 3 9 0 0 3 0)) = some ⟨9, 3, 4, 0, 0, 0, 0, 0⟩ := by decide +kernel

/-- R74, R75: the target is unit 1, and COPY(2, 1) is issued at once (R80); logical 1's unit is held (UNIT_HELD, 8). -/
theorem test_move : (after .move (asks base (fr 4 9 0 0 0 0))).channels[0].inFlight = some ⟨.copy 2 1, .relocation, 0⟩ ∧
    answer .move (asks base (fr 4 9 0 0 1 0)) = some ⟨9, 4, 8, 0, 0, 0, 0, 0⟩ := by decide +kernel

/-- R61: unit 6 stays BOUND (3) with no holds; STALE_HOLD (7) for another sequence. -/
theorem test_release : answer .release (asks base (fr 5 9 0 0 0x0001 0)) = some ⟨9, 5, 0, 0, 6, 65535, 1, 3⟩ ∧
    answer .release (asks base (fr 5 9 0 0 0x0002 0)) = some ⟨9, 5, 7, 0, 0, 0, 0, 0⟩ := by decide +kernel

theorem test_renew : answer .renew (asks { base with tick := 0x00010005 } (fr 6 9 0 0 0x0001 0)) =
    some ⟨9, 6, 0, 0, 6, 5, 1, 2000⟩ := by decide +kernel

/-- R47: a DRAINING unit is retired; a BOUND one is marked (flag bit 2) and stays BOUND (3); a RETIRED one is refused
(11). -/
theorem test_retire : (after .retire (asks base (fr 7 9 0 0 7 0))).unit? 7 = some ⟨.retired .host, 9, 1, false⟩ ∧
    answer .retire (asks base (fr 7 9 0 0 1026 0)) = some ⟨9, 7, 0, 4, 1026, 0, 3, 0⟩ ∧
    answer .retire (asks base (fr 7 9 0 0 5 0)) = some ⟨9, 7, 11, 0, 0, 0, 0, 0⟩ := by decide +kernel

/-- R50, R161: wear 3000, no owner, RETIRED (7) with cause WORN (4), no holds, channel ONLINE (1). -/
theorem test_queryUnit : answer .queryUnit (asks base (fr 8 9 0 0 5 0)) = some ⟨9, 8, 0, 0, 3000, 0xFFFF, 0x0407, 0x0100⟩ := by
  decide +kernel

/-- R97, R100: slot B of channel 1 is erased for generation 8. -/
theorem test_checkpoint : (after .checkpoint (asks base (fr 9 9 0 0 0 0))).channels[1].inFlight =
      some ⟨.erase 0, .checkpoint, 0⟩ ∧
    ((after .checkpoint (asks base (fr 9 9 0 0 0 0))).ckpt.flight.map (·.snapshot.generation)) = some 8 := by decide +kernel

theorem test_restartChannel : answer .restartChannel (asks base (fr 10 9 0 1 0 0)) = some ⟨9, 10, 3, 0, 0, 0, 0, 0⟩ ∧
    answer .restartChannel (asks base (fr 10 9 0 2 0 0)) = some ⟨9, 10, 2, 0, 0, 0, 0, 0⟩ := by decide +kernel

theorem test_enterService : answer .enterService (asks base (fr 11 9 0 0 0 0)) = some ⟨9, 11, 8, 0, 0, 0, 0, 0⟩ ∧
    (after .enterService (asks (inState .ready) (fr 11 9 0 0 0 0))).device = .service := by decide +kernel

theorem test_leaveService : (after .leaveService (asks (inState .service) (fr 12 9 0 0 0 0))).device = .ready := by
  decide +kernel

/-- R146, R147: of 128 units, 126 are usable; L = 118 with S_min 8 is the most; slot B is erased first. -/
theorem test_format : answer .format (asks (bare .unformatted) (fr 13 9 0 0 119 8)) = some ⟨9, 13, 2, 0, 0, 0, 0, 0⟩ ∧
    (after .format (asks (bare .unformatted) (fr 13 9 0 0 118 8))).channels[1].inFlight =
      some ⟨.erase 0, .stateControl, 0⟩ := by decide +kernel

/-- R171's default of T_hold; selector 0 names no parameter. -/
theorem test_getParameter : answer .getParameter (asks base (fr 14 9 0 1 0 0)) = some ⟨9, 14, 0, 0, 2000, 0, 0, 0⟩ ∧
    answer .getParameter (asks base (fr 14 9 0 0 0 0)) = some ⟨9, 14, 1, 0, 0, 0, 0, 0⟩ := by decide +kernel

/-- 9.6, steps 2 and 3. -/
theorem test_setParameter : answer .setParameter (asks (bare .unformatted) (fr 15 1 0 2 2500 0)) =
      some ⟨1, 15, 0, 0, 2500, 3000, 0, 0⟩ ∧
    answer .setParameter (asks (bare .unformatted) (fr 15 2 0 3 5000 0)) = some ⟨2, 15, 2, 0, 0, 0, 0, 0⟩ := by decide +kernel

theorem test_readCounter :
    answer .readCounter (asks { base with counters := base.counters.set 18 0x00020001 } (fr 16 9 0 19 0 0)) =
      some ⟨9, 16, 0, 0, 1, 2, 0, 0⟩ ∧
    answer .readCounter (asks base (fr 16 9 0 20 0 0)) = some ⟨9, 16, 1, 0, 0, 0, 0, 0⟩ := by decide +kernel

theorem test_clearCounters :
    (after .clearCounters (asks { base with counters := base.counters.set 4 9 } (fr 17 9 0 0 0 0))).counters[4] = 0 := by
  decide +kernel

/-- R38, with E_max 100: below it FREE, at it RETIRED(WORN), a marked unit RETIRED(HOST); wear saturates. -/
theorem test_eraseDone :
    (after (.eraseDone 0) { erasing 98 false with params := { base.params with eMax := 100 } }).unit? 3 =
      some ⟨.free, 99, 0, false⟩ ∧
    (after (.eraseDone 0) { erasing 99 false with params := { base.params with eMax := 100 } }).unit? 3 =
      some ⟨.retired .worn, 100, 0, false⟩ ∧
    (after (.eraseDone 0) (erasing 65535 true)).unit? 3 = some ⟨.retired .host, 65535, 0, false⟩ := by decide +kernel

theorem test_eraseFail : (after (.eraseFail 0) (erasing 4 true)).unit? 3 = some ⟨.retired .eraseFail, 4, 0, false⟩ := by
  decide +kernel

theorem test_copyDone_commits : (after (.copyDone 0) (moving .copying)).map[0]? = some ⟨some 1, 5, none⟩ ∧
    (after (.copyDone 0) (moving .copying)).stateOf 1 = some (.bound 0) := by decide +kernel

/-- 10.7, tick 40090: byte 3 is 0x31, generation 30, 90 ticks, and the word 2097515608 = 0x7D058C58. -/
theorem test_move_record_of_10_7 :
    moveRecord 0x81 .moveAbandoned 3 ⟨210, 3160, 3572, .host 0x81, .abandoning, 40000⟩ .none (some 3160, 30) 40090 =
      ⟨0x81, 4, 12, 0x31, 30, 90, 0x8C58, 0x7D05⟩ := by decide +kernel

theorem test_copyFailProgram : (after (.copyFailProgram 0) (moving .copying)).stateOf 1 = some (.retired .programFail) ∧
    (after (.copyFailProgram 0) (moving .copying)).map[0]? = some ⟨some 2, 4, none⟩ := by decide +kernel

theorem test_copyFailRead : (after (.copyFailRead 0) (moving .abandoning)).counters[18] = 1 ∧
    (after (.copyFailRead 0) (moving .abandoning)).stateOf 1 = some .dirty := by decide +kernel

theorem test_slotEraseFail : answer (.slotEraseFail 1) (saving .erasingSlot) =
    some ⟨0x92, 9, 14, 0, 8, 0, 0x0101, 0⟩ := by decide +kernel

/-- R104, R105, as in 10.8 at tick 50210: the WAITING unit leaves, and one unit is reported released. -/
theorem test_writeImageDone : answer (.writeImageDone 1) (saving .writing) = some ⟨0x92, 9, 0, 0, 8, 0, 1, 1⟩ ∧
    (after (.writeImageDone 1) (saving .writing)).ckpt.durableSlot = some .b := by decide +kernel

theorem test_writeImageFail : answer (.writeImageFail 1) (saving .writing) =
    some ⟨0x92, 9, 14, 0, 8, 0, 0x0201, 0⟩ := by decide +kernel

/-- R139, R142: with slot A UNREAD, an empty slot B leaves nothing valid and nothing intact. -/
theorem test_readImageDone : (after (.readImageDone 1 []) (reading .readingB)).device = .unformatted := by decide +kernel

theorem test_readImageFail : (after (.readImageFail 0) (reading .readingA)).channels[1].inFlight =
    some ⟨.readImage 0, .stateControl, 0⟩ := by decide +kernel

theorem test_probeResetDone : (after (.probeResetDone 3) (probing .reset)).channels[3].inFlight =
    some ⟨.identify, .stateControl, 0⟩ := by decide +kernel

/-- R130: 64 and 1024 units are the ends of the range; the probe's end places the read of slot A (R139). -/
theorem test_probeIdent : (after (.probeIdent 3 1024) (probing .identify)).channels[3].state = .online ∧
    (after (.probeIdent 3 1025) (probing .identify)).channels[3].state = .absent ∧
    (after (.probeIdent 3 63) (probing .identify)).channels[0].inFlight = some ⟨.readImage 0, .stateControl, 0⟩ := by
  decide +kernel

theorem test_restartResetDone : (after (.restartResetDone 1) (restarting .reset)).channels[1].inFlight =
    some ⟨.identify, .restart, 0⟩ := by decide +kernel

/-- R132, R133: the fault cause cleared is DEADLINE (1); reason COUNT (3) and the count the die reported. -/
theorem test_restartIdent : answer (.restartIdent 1 64) (restarting .identify) = some ⟨0x74, 10, 0, 0, 0x0101, 0, 64, 0⟩ ∧
    answer (.restartIdent 1 65) (restarting .identify) = some ⟨0x74, 10, 15, 0, 0x0101, 3, 65, 0⟩ := by decide +kernel

theorem test_formatSlotEraseDone : (after (.formatSlotEraseDone 1) (formatting .eraseB)).channels[0].inFlight =
    some ⟨.erase 0, .stateControl, 0⟩ := by decide +kernel

/-- R150: FORMAT_FAILED (16), reason ERASE (1), step 2. -/
theorem test_formatSlotEraseFail : answer (.formatSlotEraseFail 0) (formatting .eraseA) =
    some ⟨0x0D, 13, 16, 0, 0x0201, 0, 0, 0⟩ := by decide +kernel

/-- R124: an ERASE does not accept FAIL(READ). -/
theorem test_unacceptedReply :
    (after (.unacceptedReply 0 .failRead) (erasing 1 false)).channels[0].fault = some .protocol := by decide +kernel

theorem test_strayReply : after (.strayReply 0 .done) base = { base with counters := base.counters.set 14 1 } := by
  decide +kernel

/-- R148: the units of a part not taken in SERVICE are all DIRTY with wear 0; slot units 0 and 1024 are none of them. -/
theorem test_formatUnitReset_tables : (formatting .imageWrite).resetUnits ⟨.host 0x0D, 20, 8, false, .unformatted, .imageWrite⟩ =
    (usableUnits (formatting .imageWrite).counts).map (fun g => (g, ⟨.dirty, 0, 0, false⟩)) ∧
    (usableUnits (formatting .imageWrite).counts).length = 126 := by decide +kernel

/-! ### States that meet the hypotheses of the statements -/

/-- A request passes the common checks when its frame is at the head and the check answers none. -/
theorem passes_of {s : State} {k : ReqCode} {f : Frame} {rest : List Frame}
    (h : s.resetLow = false ∧ s.link.intake = f :: rest ∧ f.code = encodeReqCode k ∧ f.tag ∈ s.link.openTags ∧
      s.commonCheck k f = none) : s.Passes k f rest :=
  ⟨⟨h.1, h.2.1, h.2.2.1, h.2.2.2.1⟩, h.2.2.2.2⟩

theorem finds_of {s : State} {k : ReqCode} {f : Frame} {rest : List Frame}
    (h : s.resetLow = false ∧ s.link.intake = f :: rest ∧ f.code = encodeReqCode k ∧ f.tag ∈ s.link.openTags) :
    s.Finds k f rest := ⟨h.1, h.2.1, h.2.2.1, h.2.2.2⟩

/-- TagInv, read as decidable parts. -/
theorem tagInv_of {s : State} (h : s.heldTags.Perm s.link.openTags ∧ s.link.openTags.Nodup ∧
    ∀ c : Fin 4, (s.channels[c].restart).isSome = true → s.channels[c].state = .restarting) : TagInv s :=
  ⟨h.1, h.2.1, h.2.2⟩

/-- The unit that the tests call least worn is. -/
theorem leastWornFree_of {s : State} {c : Fin 4} {g : Nat} {u : UnitRec} (hu : s.unit? g = some u ∧ chanOf g = c ∧ u.state = .free)
    (h : s.units.all (fun p => decide (chanOf p.1 = c → p.2.state = .free →
      u.wear.toNat < p.2.wear.toNat ∨ (u.wear = p.2.wear ∧ g ≤ p.1))) = true) : s.LeastWornFree c g :=
  ⟨u, hu, fun x v e => all_units (P := fun x v => chanOf x = c → v.state = .free →
    u.wear.toNat < v.wear.toNat ∨ (u.wear = v.wear ∧ g ≤ x)) h x v e.1 e.2.1 e.2.2⟩

/-- A request of a code with argument A, waiting in the base state. -/
def ask (code flags sel : Byte) (a b : Word16) : State := asks base (fr code 9 flags sel a b)

/-- Every hold slot occupied (by holds on unit 6). -/
def full (s : State) : State := { s with holds := Vector.replicate 64 ⟨1, some ⟨1, 6, 1, 65535, 0, 2000⟩⟩ }

theorem test_hyp_StepRunsFrontCommand :
    ({ base with pending := [.tick, .lookup] } : State).pending = .tick :: [.lookup] ∧ base.pending = [] := ⟨rfl, rfl⟩

theorem test_hyp_EveryCommandCompletes : Instr.tick.wellFormed = true ∧
    (Instr.transactionDiscarded (.unknownKind 0 0)).wellFormed = true ∧
    (Instr.transactionDiscarded (.unknownKind 5 0)).wellFormed = true := by decide +kernel

theorem test_hyp_DeadlinePassesAtItsTick : (0 : Nat) < 2 ^ 32 ∧ 2 ^ 32 - 1 < 2 ^ 32 := by decide

/-- One tick before the first hold runs out; nothing in flight, or an ERASE one tick before its deadline; no FORMAT, or one
still erasing; an empty intake, and a request of another code in it; RESET_N low, with the kind bytes beside the known
ones. -/
theorem test_hyp_EventsNotEnabledChangeNothing :
    base.resetLow = false ∧
    (∀ e, (({ base with tick := 1999 } : State).holds[(0 : Fin 64)]).entry = some e →
      deadlinePassed ({ base with tick := 1999 } : State).tick e.start e.lifetime.toNat = false) ∧
    (∀ op, ({ erasing 1 false with tick := 39 } : State).channels[(0 : Fin 4)].inFlight = some op →
      deadlinePassed ({ erasing 1 false with tick := 39 } : State).tick op.start op.kind.deadline = false) ∧
    (∀ f, (formatting .eraseA).formatRec = some f → (formatting .eraseA).unitResetDue f = false) ∧
    base.link.intake = [] ∧ (ask 1 0 0 0 0).link.intake = fr 1 9 0 0 0 0 :: [] ∧
    decodeReqCode (fr 1 9 0 0 0 0).code = some .lookup ∧ ReqCode.lookup ≠ .bind ∧
    State.reset.resetLow = true ∧ (replyOf (.eraseDone 0)).isSome = true ∧
    (∀ k : Byte, k = 0 ∨ k = 5 → k ≠ 1 ∧ k ≠ 2 ∧ k ≠ 3 ∧ k ≠ 4) :=
  ⟨by decide, all_some (by decide +kernel), all_some (by decide +kernel), all_some (by decide +kernel), rfl, rfl, rfl,
    by decide, rfl, rfl, by decide +kernel⟩

/-- The codes at the ends of their range; the kind bytes beside the known ones; the cuts one byte before the point of effect,
and the transactions that just reach it. -/
theorem test_hyp_LinkBytesAreDecoded : decodeReqCode 0x01 = some .lookup ∧ decodeReqCode 0x11 = some .clearCounters ∧
    (0 : Byte).toNat < 0x01 ∧ 0x04 < (5 : Byte).toNat ∧ (zeros 7).length = (7 : Fin 8).val ∧
    (zeros 11).length = (11 : Fin 12).val ∧ (zeros 12).length = 12 + 0 ∧ (zeros 31).length = (31 : Fin 32).val ∧
    (zeros 32).length = 32 + 0 ∧ transactionOf [0x04] = some (.linkReset 0) := by decide +kernel

/-- The clauses of acceptance at their boundaries: tag 0, a tag in use, 16 open, 32 together, and one below each. -/
theorem test_hyp_RequestFrameIsJudged :
    (moving .copying).resetLow = false ∧ (0x81 : Byte) ∈ (moving .copying).link.openTags ∧
    (∃ s : State, s.resetLow = false ∧ s.link.openTags.length = 16) ∧
    (∃ s : State, s.resetLow = false ∧ s.link.openTags.length + s.link.queue.length = 32) ∧
    (∃ s : State, s.resetLow = false ∧ s.link.openTags.length = 15 ∧ s.link.openTags.length + s.link.queue.length = 31) :=
  ⟨by decide, by decide +kernel,
    ⟨{ base with link := { base.link with openTags := (List.range 16).map fun i => BitVec.ofNat 8 (i + 1) } }, by decide +kernel⟩,
    ⟨{ base with link := { base.link with queue := List.replicate 32 ⟨0, 1, 0, 1, 0, 0, 0, 0⟩ } }, by decide +kernel⟩,
    ⟨{ base with link := { base.link with
        openTags := (List.range 15).map fun i => BitVec.ofNat 8 (i + 1)
        queue := List.replicate 16 ⟨0, 1, 0, 1, 0, 0, 0, 0⟩ } }, by decide +kernel⟩⟩

/-- The queue full to its bound of 32, with notices of the lowest and the highest kind pending. -/
def crowded : State := { base with link := ⟨List.replicate 32 ⟨0, 1, 0, 1, 0, 0, 0, 0⟩,
  ((Vector.replicate 7 none).set 0 (some ⟨255, ⟨0, 1, 0, 0, 0, 0, 0, 0⟩⟩)).set 6 (some ⟨1, ⟨0, 7, 0, 0, 0, 0, 0, 0⟩⟩),
  [], []⟩ }

theorem test_hyp_FetchTakesTheOldest : base.resetLow = false ∧ base.link.queue = [] ∧
    (∀ k : Fin 7, base.link.notices[k] = none) ∧
    crowded.link.queue = ⟨0, 1, 0, 1, 0, 0, 0, 0⟩ :: List.replicate 31 ⟨0, 1, 0, 1, 0, 0, 0, 0⟩ ∧
    crowded.link.notices[(0 : Fin 7)] = some ⟨255, ⟨0, 1, 0, 0, 0, 0, 0, 0⟩⟩ ∧
    (∀ j : Fin 7, j < 0 → crowded.link.notices[j] = none) := by decide +kernel

/-- Tables in READY, kept in FAILED(SLOT) and in FORMATTING before the unit reset, and none. -/
theorem test_hyp_StatusReportsTheState : base.resetLow = false ∧ base.lawful = true ∧ base.units ≠ [] ∧
    (inState (.failed .slot)).lawful = true ∧ (inState (.failed .slot)).units ≠ [] ∧
    ({ inState .formatting with formatRec := some ⟨.orphaned, 20, 8, false, .service, .eraseB⟩ } : State).lawful = true ∧
    (bare .unformatted).resetLow = false ∧ (bare .unformatted).lawful = true ∧
    (bare .unformatted).units = [] := by decide +kernel

theorem test_hyp_DiscardedTransactionsAreCounted : base.resetLow = false ∧
    ((5 : Byte) ≠ 1 ∧ (5 : Byte) ≠ 2 ∧ (5 : Byte) ≠ 3 ∧ (5 : Byte) ≠ 4) := by decide

/-- Unit 7 DRAINING and recorded BOUND, unit 4 WAITING, C_auto 2: the six conditions hold; C_auto is one too high in `base`. -/
theorem test_hyp_LinkResetEndsTheSession_due :
    let s : State := { base with params := { base.params with cAuto := 2 }, ckpt := { base.ckpt with durableBound := [4, 7] } }
    s.resetLow = false ∧ s.lawful = true ∧ s.device = .ready ∧ 0 < s.params.cAuto.toNat ∧
    (s.units.filter fun p => p.2.state.isDraining && s.ckpt.recordsBound p.1).length = 1 ∧ s.commitWait.length = 1 ∧
    s.ckpt.flight = none ∧ s.channels[s.slotChannel s.targetSlot].state = .online ∧ s.ckpt.durableGen ≠ 0xFFFFFFFF ∧
    ¬base.params.cAuto.toNat ≤ 2 := by decide +kernel

theorem test_hyp_LinkResetEndsTheSession : (moving .copying).resetLow = false ∧ (moving .copying).lawful = true ∧
    (saving .writing).lawful = true ∧ (restarting .identify).lawful = true ∧ (formatting .eraseB).lawful = true := by
  decide +kernel

theorem test_hyp_LinkBoundsKept : LinkInv crowded ∧ ∃ t, step { crowded with pending := [.fetch 0] } = .next t :=
  ⟨linkInv_of (by decide +kernel), _, rfl⟩

theorem test_hyp_NoticesArePlacedOrMerged : base.link.notices[NoticeKind.lowSpares.idx] = none ∧
    base.link.openTags.length + base.link.queue.length < 32 ∧ crowded.link.notices[NoticeKind.lowSpares.idx] = none ∧
    32 ≤ crowded.link.openTags.length + crowded.link.queue.length ∧
    (crowded.link.notices[NoticeKind.started.idx]).isSome = true ∧ LinkInv crowded ∧ 9 ∈ (ask 1 0 0 0 0).link.openTags :=
  ⟨by decide +kernel, by decide +kernel, by decide +kernel, by decide +kernel, by decide +kernel,
    linkInv_of (by decide +kernel), by decide +kernel⟩

/-- Clause by clause: the codes 0x00 and 0x12; flag bit 1; a request not admitted in SERVICE; ids 0 and 20; logical L; the
lowest and highest values that pass. -/
theorem test_hyp_CommonChecksRefuseUnchanged :
    ((ask 0 0 0 0 0).link.intake = fr 0 9 0 0 0 0 :: [] ∧ 9 ∈ (ask 0 0 0 0 0).link.openTags) ∧
    ((ask 0x12 0 0 0 0).link.intake = fr 0x12 9 0 0 0 0 :: [] ∧ 0x11 < (0x12 : Byte).toNat) ∧
    (ask 1 2 0 0 0).Finds .lookup (fr 1 9 2 0 0 0) [] ∧
    ((asks (inState .service) (fr 2 9 0 0 0 0)).Finds .bind (fr 2 9 0 0 0 0) [] ∧ (inState .service).device = .service) ∧
    ((ask 16 0 0 0 0).Finds .readCounter (fr 16 9 0 0 0 0) [] ∧ (ask 16 0 20 0 0).Finds .readCounter (fr 16 9 0 20 0 0) []) ∧
    ((ask 1 0 0 4 0).Finds .lookup (fr 1 9 0 0 4 0) [] ∧ base.map.length = 4) ∧
    (ask 1 0 0 3 0).Passes .lookup (fr 1 9 0 0 3 0) [] ∧ (ask 15 0 3 4096 0).Passes .setParameter (fr 15 9 0 3 4096 0) [] ∧
    (asks (bare .unformatted) (fr 13 9 0 0 118 8)).Passes .format (fr 13 9 0 0 118 8) [] :=
  ⟨by decide +kernel, by decide +kernel, finds_of (by decide +kernel),
    ⟨finds_of (by decide +kernel), rfl⟩, ⟨finds_of (by decide +kernel), finds_of (by decide +kernel)⟩,
    ⟨finds_of (by decide +kernel), rfl⟩, passes_of (by decide +kernel), passes_of (by decide +kernel),
    passes_of (by decide +kernel)⟩

/-- The hold requests and the map requests at their refusals. -/
theorem test_hyp_OwnChecksRefuseUnchanged_map :
    ((ask 1 1 0 3 0).Passes .lookup (fr 1 9 1 0 3 0) [] ∧ base.map[3]? = some ⟨none, 9, none⟩) ∧
    ((full (ask 1 1 0 0 0)).Passes .lookup (fr 1 9 1 0 0 0) [] ∧ base.map[0]? = some ⟨some 2, 4, none⟩ ∧
      (full base).channels[chanOf 2].state = .online ∧ (∀ i : Fin 64, ((full base).holds[i]).entry ≠ none)) ∧
    ((full (ask 2 1 0 0 0)).Passes .bind (fr 2 9 1 0 0 0) []) ∧ (ask 3 0 0 3 0).Passes .unbind (fr 3 9 0 0 3 0) [] ∧
    (asks (restarting .reset) (fr 1 9 0 0 2 0)).channels[chanOf 1026].state ≠ .online :=
  ⟨⟨passes_of (by decide +kernel), by decide +kernel⟩,
    ⟨passes_of (by decide +kernel), by decide +kernel, by decide +kernel, by decide +kernel⟩, passes_of (by decide +kernel),
    passes_of (by decide +kernel), by decide +kernel⟩

/-- Logical 0, whose channel's place is taken; logical 1, whose unit is held; a channel without a FREE unit. -/
theorem test_hyp_OwnChecksRefuseUnchanged_move :
    ((ask 4 0 0 3 0).Passes .move (fr 4 9 0 0 3 0) [] ∧ base.map[3]? = some ⟨none, 9, none⟩) ∧
    ((asks (moving .copying) (fr 4 9 0 0 0 0)).Passes .move (fr 4 9 0 0 0 0) [] ∧ (moving .copying).moves[chanOf 2] ≠ none) ∧
    ((ask 4 0 0 1 0).Passes .move (fr 4 9 0 0 1 0) [] ∧ base.unit? 6 = some ⟨.bound 1, 2, 1, false⟩) ∧
    (∃ s : State, s.Passes .move (fr 4 9 0 0 0 0) [] ∧ s.map[0]? = some ⟨some 2, 4, none⟩ ∧
      s.unit? 2 = some ⟨.bound 0, 5, 0, false⟩ ∧ s.moves[chanOf 2] = none ∧ s.channels[chanOf 2].state = .online ∧
      s.keysLawful = true ∧ ∀ x v, ¬s.FreeUnit (chanOf 2) x v) :=
  ⟨⟨passes_of (by decide +kernel), by decide +kernel⟩, ⟨passes_of (by decide +kernel), by decide +kernel⟩,
    ⟨passes_of (by decide +kernel), by decide +kernel⟩,
    ⟨asks { base with units := base.units.filter fun p => decide (p.1 ≠ 1 ∧ p.1 ≠ 8) } (fr 4 9 0 0 0 0),
      passes_of (by decide +kernel), by decide +kernel, by decide +kernel, by decide +kernel, by decide +kernel,
      by decide +kernel, fun x v h => all_units (s := asks { base with
        units := base.units.filter fun p => decide (p.1 ≠ 1 ∧ p.1 ≠ 8) } (fr 4 9 0 0 0 0))
        (P := fun x v => ¬(chanOf x = chanOf 2 ∧ v.state = .free)) (by decide +kernel) x v h.1 ⟨h.2.1, h.2.2⟩⟩⟩

theorem test_hyp_OwnChecksRefuseUnchanged_rest :
    ((ask 5 0 0 2 0).Passes .release (fr 5 9 0 0 2 0) [] ∧ (ask 5 0 0 2 0).currentHandle 2 = none) ∧
    ((ask 6 0 0 0x4001 0).Passes .renew (fr 6 9 0 0 0x4001 0) [] ∧ (ask 6 0 0 0x4001 0).currentHandle 0x4001 = none) ∧
    ((ask 7 0 0 5 0).Passes .retire (fr 7 9 0 0 5 0) [] ∧ base.unit? 5 = some ⟨.retired .worn, 3000, 0, false⟩) ∧
    ((asks (saving .writing) (fr 9 9 0 0 0 0)).Passes .checkpoint (fr 9 9 0 0 0 0) [] ∧ (saving .writing).ckpt.flight ≠ none) ∧
    ((ask 10 0 0 0 0).Passes .restartChannel (fr 10 9 0 0 0 0) [] ∧ base.channels[(0 : Fin 4)].state ≠ .faulted) ∧
    ((ask 11 0 0 0 0).Passes .enterService (fr 11 9 0 0 0 0) [] ∧ ∃ i : Fin 64, (base.holds[i]).entry ≠ none) ∧
    ((asks { inState .ready with moves := (moving .copying).moves } (fr 11 9 0 0 0 0)).Passes .enterService (fr 11 9 0 0 0 0) [] ∧
      (∀ i : Fin 64, ((inState .ready).holds[i]).entry = none) ∧ ∃ c : Fin 4, (moving .copying).moves[c] ≠ none) :=
  ⟨⟨passes_of (by decide +kernel), by decide +kernel⟩, ⟨passes_of (by decide +kernel), by decide +kernel⟩,
    ⟨passes_of (by decide +kernel), by decide +kernel⟩, ⟨passes_of (by decide +kernel), by decide +kernel⟩,
    ⟨passes_of (by decide +kernel), by decide +kernel⟩, ⟨passes_of (by decide +kernel), 0, by decide +kernel⟩,
    ⟨passes_of (by decide +kernel), by decide +kernel, 0, by decide +kernel⟩⟩

/-- CHECKPOINT with slot B's channel down, at the last generation; FORMAT in SERVICE with a checkpoint in flight. -/
theorem test_hyp_OwnChecksRefuseUnchanged_images :
    ((asks (restarting .reset) (fr 9 9 0 0 0 0)).Passes .checkpoint (fr 9 9 0 0 0 0) [] ∧
      (restarting .reset).ckpt.flight = none ∧
      (restarting .reset).channels[(restarting .reset).slotChannel (restarting .reset).targetSlot].state ≠ .online) ∧
    (∃ s : State, s.Passes .checkpoint (fr 9 9 0 0 0 0) [] ∧ s.ckpt.flight = none ∧ s.ckpt.durableGen = 0xFFFFFFFF ∧
      s.channels[s.slotChannel s.targetSlot].state = .online) ∧
    (∃ s : State, s.Passes .format (fr 13 9 0 0 10 8) [] ∧ s.ckpt.flight ≠ none) :=
  ⟨⟨passes_of (by decide +kernel), by decide +kernel, by decide +kernel⟩,
    ⟨asks { base with ckpt := { base.ckpt with durableGen := 0xFFFFFFFF } } (fr 9 9 0 0 0 0), passes_of (by decide +kernel),
      by decide +kernel, by decide +kernel, by decide +kernel⟩,
    ⟨asks { inState .service with ckpt := (saving .writing).ckpt } (fr 13 9 0 0 10 8), passes_of (by decide +kernel),
      by decide +kernel⟩⟩

theorem test_hyp_PlainLookupAndQueryReport :
    ((ask 1 0 0 3 0).Passes .lookup (fr 1 9 0 0 3 0) [] ∧ base.map[3]? = some ⟨none, 9, none⟩) ∧
    ((ask 1 0 0 0 0).Passes .lookup (fr 1 9 0 0 0 0) [] ∧ base.map[0]? = some ⟨some 2, 4, none⟩ ∧
      base.unit? 2 = some ⟨.bound 0, 5, 0, false⟩) ∧
    ((ask 8 0 0 1026 0).Passes .queryUnit (fr 8 9 0 0 1026 0) [] ∧ base.unit? 1026 = some ⟨.bound 2, 6, 0, false⟩) :=
  ⟨⟨passes_of (by decide +kernel), by decide +kernel⟩, ⟨passes_of (by decide +kernel), by decide +kernel⟩,
    ⟨passes_of (by decide +kernel), by decide +kernel⟩⟩

theorem test_hyp_AbandonmentFollowsThePhase : base.logical? 0 = some ⟨some 2, 4, none⟩ ∧
    (moving .assigned).logical? 0 = some ⟨some 2, 4, some 0⟩ ∧
    (moving .assigned).moves[(0 : Fin 4)] = some ⟨0, 2, 1, .host 0x81, .assigned, 0⟩ ∧
    (moving .copying).moves[(0 : Fin 4)] = some ⟨0, 2, 1, .host 0x81, .copying, 0⟩ := by decide +kernel

/-- With the move of logical 0 ASSIGNED, and with it COPYING; slot 1 is the lowest free slot. -/
theorem test_hyp_LookupWithHoldTakesAHold (p : MovePhase) (hp : p = .assigned ∨ p = .copying) :
    let s := asks (moving p) (fr 1 9 1 0 0 0)
    s.Passes .lookup (fr 1 9 1 0 0 0) [] ∧ s.lawful = true ∧ TagInv s ∧ s.map[0]? = some ⟨some 2, 4, some 0⟩ ∧
    s.unit? 2 = some ⟨.bound 0, 5, 0, false⟩ ∧ s.channels[chanOf 2].state = .online ∧ (s.holds[(1 : Fin 64)]).entry = none ∧
    ∀ j : Fin 64, j < 1 → (s.holds[j]).entry ≠ none := by
  rcases hp with rfl | rfl <;>
    exact ⟨passes_of (by decide +kernel), by decide +kernel, tagInv_of (by decide +kernel), by decide +kernel,
      by decide +kernel, by decide +kernel, by decide +kernel, by decide +kernel⟩

/-- Logical 3, UNBOUND, with HOLD; logical 1, BOUND to a held unit, without. -/
theorem test_hyp_BindTakesEffect (f : Frame) (hf : f = fr 2 9 1 0 3 0 ∨ f = fr 2 9 0 0 1 0) :
    (asks base f).Passes .bind f [] ∧ (asks base f).lawful = true ∧ TagInv (asks base f) ∧
    (asks base f).holdTableFull = false ∧ (asks base f).firstOnlineFree = some 1025 ∧
    (asks base f).unit? 1025 = some ⟨.free, 0, 0, false⟩ ∧ (asks base f).map[f.argA.toNat]?.isSome = true := by
  rcases hf with rfl | rfl <;>
    exact ⟨passes_of (by decide +kernel), by decide +kernel, tagInv_of (by decide +kernel), by decide +kernel,
      by decide +kernel, by decide +kernel, by decide +kernel⟩

/-- No FREE unit: with a DIRTY unit on an ONLINE channel a park condition holds; with both channels FAULTED none does. -/
def starved (down : Bool) : State :=
  let s := asks { base with units := base.units.filter fun p => !p.2.state.isFree } (fr 2 9 0 0 0 0)
  if down then { s with channels := s.channels.map fun ch => if ch.state = .online then { ch with state := .faulted } else ch }
  else s

theorem test_hyp_BindParksOrGivesUp (down : Bool) : (starved down).Passes .bind (fr 2 9 0 0 0 0) [] ∧
    (starved down).lawful = true ∧ (∀ g u, (starved down).unit? g = some u → u.state = .free →
      (starved down).channels[chanOf g].state ≠ .online) ∧
    (down = false → (starved down).channels[(0 : Fin 4)].state = .online ∧ (starved down).eraseQueues[(0 : Fin 4)] ≠ []) ∧
    (down = true → (∀ c : Fin 4, (starved down).channels[c].state ≠ .online ∧ (starved down).channels[c].state ≠ .restarting) ∧
      (∀ g u, (starved down).unit? g = some u → u.state ≠ .erasing ∧ u.state ≠ .free) ∧ (starved down).ckpt.flight = none) := by
  cases down
  · exact ⟨passes_of (by decide +kernel), by decide +kernel, all_units (by decide +kernel), by decide +kernel, nofun⟩
  · exact ⟨passes_of (by decide +kernel), by decide +kernel, all_units (by decide +kernel), nofun,
      fun _ => ⟨by decide +kernel, all_units (by decide +kernel), by decide +kernel⟩⟩

theorem test_hyp_UnbindLetsTheUnitGo :
    let s := asks (moving .copying) (fr 3 9 0 0 0 0)
    s.Passes .unbind (fr 3 9 0 0 0 0) [] ∧ s.lawful = true ∧ TagInv s ∧ s.map[0]? = some ⟨some 2, 4, some 0⟩ ∧
    s.unit? 2 = some ⟨.bound 0, 5, 0, false⟩ :=
  ⟨passes_of (by decide +kernel), by decide +kernel, tagInv_of (by decide +kernel), by decide +kernel, by decide +kernel⟩

theorem test_hyp_UnitReleaseTakesTheFirstOutcome : base.keysLawful = true ∧ base.unit? 6 = some ⟨.bound 1, 2, 1, false⟩ ∧
    (∀ c, (UnitState.bound 1) ≠ .retired c) ∧ UnitState.bound 1 ≠ .dirty := ⟨by decide +kernel, by decide +kernel, nofun, nofun⟩

/-- A BIND parked while no unit is FREE; and with a FREE unit to be had, the hold table with room and full. -/
theorem test_hyp_WaitersAreServedOldestFirst :
    let w : List Waiter := [⟨9, 3, true⟩]
    let s : State := { base with waiters := w, link := { base.link with openTags := [9] } }
    let f : State := { full s with
      units := (modifyIn base.units 6 fun u => { u with holds := 64 }).filter fun p => p.1 != 7 }
    let t : State := { starved true with waiters := w, link := { base.link with openTags := [9] } }
    (∀ x ∈ [s, f], x.lawful = true ∧ TagInv x ∧ x.waiters = ⟨9, 3, true⟩ :: [] ∧ x.firstOnlineFree = some 1025 ∧
      x.unit? 1025 = some ⟨.free, 0, 0, false⟩ ∧ x.map[3]? = some ⟨none, 9, none⟩) ∧
    (s.holds[(1 : Fin 64)]).entry = none ∧ (∀ i : Fin 64, (f.holds[i]).entry ≠ none) ∧
    t.parkCondition = false ∧ t.firstOnlineFree = none ∧ TagInv t := by
  refine ⟨?_, by decide +kernel, by decide +kernel, by decide +kernel, by decide +kernel, tagInv_of (by decide +kernel)⟩
  intro x hx
  fin_cases hx <;> exact ⟨by decide +kernel, tagInv_of (by decide +kernel), by decide +kernel⟩

/-- R19, R47, R48: both channels FAULTED and the last DIRTY unit retired: the parked BIND gives up, between the UNIT_RETIRED
notice and the RETIRE's own record. -/
theorem test_retire_reexamines_first :
    (after .retire (asks { starved true with waiters := [⟨8, 3, false⟩], link := { base.link with openTags := [8] } }
      (fr 7 9 0 0 3 0))).link.queue =
      [⟨0, 3, 0, 1, 3, 1, 0, 0⟩, ⟨8, 2, 5, 0, 0, 0, 0, 0⟩, ⟨9, 7, 0, 0, 3, 0, 7, 0⟩] := by decide +kernel

/-- One channel of 64 units with the whole unit table: unit 2 BOUND, and recorded BOUND by the durable image; the others
FREE. -/
def tabled : State := { bare .ready with
  channels := #v[on 64, gone, gone, gone]
  units := (usableUnits #v[64, 0, 0, 0]).map fun g => (g, ⟨if g = 2 then .bound 0 else .free, 1, 0, false⟩)
  map := [⟨some 2, 4, none⟩]
  ckpt := ⟨7, some .a, [2], [], none⟩
  pending := [.tick] }

/-- The whole unit table again, with unit 3 being erased, the others retired, and a BIND that waits for it. -/
def waiting : State := flies { tabled with
  units := tabled.units.map fun p => (p.1, { p.2 with
    state := if p.1 = 2 then .bound 0 else if p.1 = 3 then .erasing else .retired .worn })
  waiters := [⟨8, 0, true⟩]
  link := { tabled.link with openTags := [8] }
  pending := [.eraseDone 0] } 0 (.erase 3) .unitManager

theorem test_hyp_WaitersLeaveNoUsableUnitIdle : waiting.lawful = true ∧ KeysInv waiting ∧ waiting.waiters ≠ [] ∧
    waiting.firstOnlineFree = none ∧ ∃ t, step waiting = .next t :=
  ⟨by decide +kernel, ⟨fun _ => by decide +kernel, fun _ => by decide +kernel⟩, by decide +kernel, by decide +kernel, _, rfl⟩

theorem test_hyp_HoldExpiryRemovesTheEntry :
    ({ base with tick := 2000 } : State).lawful = true ∧ base.resetLow = false ∧
    (base.holds[(0 : Fin 64)]).entry = some ⟨1, 6, 1, 65535, 0, 2000⟩ ∧
    (2000 : Word16).toNat ≤ ((2000 : Word32) - 0).toNat := by decide +kernel

theorem test_hyp_ReleaseEndsTheHold : (ask 5 0 0 0x3FFF 0).Passes .release (fr 5 9 0 0 0x3FFF 0) [] ∧
    (ask 5 0 0 0x3FFF 0).lawful = true ∧ (base.holds[(63 : Fin 64)]).entry = some ⟨255, 7, 0, 3, 0, 65535⟩ ∧
    (0x3FFF : Word16) = BitVec.ofNat 16 (63 * 256 + (255 : Byte).toNat) :=
  ⟨passes_of (by decide +kernel), by decide +kernel, by decide +kernel, by decide +kernel⟩

theorem test_hyp_RenewRestartsTheLifetime : (ask 6 1 0 1 0).Finds .renew (fr 6 9 1 0 1 0) [] ∧
    (ask 6 0 0 1 0).Finds .renew (fr 6 9 0 0 1 0) [] ∧ (base.holds[(0 : Fin 64)]).entry = some ⟨1, 6, 1, 65535, 0, 2000⟩ ∧
    (asks (bare .unformatted) (fr 6 9 0 0 1 0)).Finds .renew (fr 6 9 0 0 1 0) [] ∧
    (asks (inState .service) (fr 6 9 0 0 1 0)).Finds .renew (fr 6 9 0 0 1 0) [] ∧
    (∀ i : Fin 64, ((inState .service).holds[i]).entry = none) :=
  ⟨finds_of (by decide +kernel), finds_of (by decide +kernel), by decide +kernel, finds_of (by decide +kernel),
    finds_of (by decide +kernel), by decide +kernel⟩

theorem test_hyp_HandleNamesItsEntry : HoldInv base ∧ (0xFF00 : Word16).toNat % 256 = 0 ∧ 64 ≤ (0x4000 : Word16).toNat / 256 :=
  ⟨holdInv_of (by decide +kernel), by decide, by decide⟩

theorem test_hyp_HoldSequencesKept : HoldInv base ∧ ∃ t, step { base with pending := [.holdExpiry 63] } = .next t :=
  ⟨holdInv_of (by decide +kernel), _, rfl⟩

/-- Channels 0 and 1 each have a FREE unit; channel 2 has none. -/
theorem test_hyp_FreePoolKeepsWearOrder : base.keysLawful = true ∧ base.firstOnlineFree = some 1025 ∧
    base.leastWornFree 0 = some 1 ∧ base.mostWornFree 0 = some (8, ⟨.free, 9, 0, false⟩) ∧
    (starved true).firstOnlineFree = none := by decide +kernel

theorem test_hyp_RetirementIsCountedAndReported : base.keysLawful = true ∧ base.unit? 1 = some ⟨.free, 3, 0, false⟩ ∧
    ∀ c, UnitState.free ≠ .retired c := ⟨by decide +kernel, by decide +kernel, nofun⟩

/-- A unit in each state that RETIRE tells apart, and a TARGET in each phase of its move. -/
theorem test_hyp_RetireActsByState :
    (∀ g ∈ [1, 3, 4, 2, 6, 7], (ask 7 0 0 (BitVec.ofNat 16 g) 0).Passes .retire (fr 7 9 0 0 (BitVec.ofNat 16 g) 0) [] ∧
      (ask 7 0 0 (BitVec.ofNat 16 g) 0).lawful = true) ∧ TagInv (ask 7 0 0 1 0) ∧
    [1, 3, 4, 2, 7].map base.stateOf = [some .free, some .dirty, some .waiting, some (.bound 0), some .draining] ∧
    ((asks (erasing 1 false) (fr 7 9 0 0 3 0)).Passes .retire (fr 7 9 0 0 3 0) [] ∧ (erasing 1 false).stateOf 3 = some .erasing) ∧
    (∀ p ∈ [MovePhase.assigned, .copying, .abandoning], (asks (moving p) (fr 7 9 0 0 1 0)).Passes .retire (fr 7 9 0 0 1 0) [] ∧
      (asks (moving p) (fr 7 9 0 0 1 0)).lawful = true ∧ TagInv (asks (moving p) (fr 7 9 0 0 1 0)) ∧
      (moving p).stateOf 1 = some (.target 0) ∧ (moving p).moves[chanOf 1] = some ⟨0, 2, 1, .host 0x81, p, 0⟩) := by
  refine ⟨?_, tagInv_of (by decide +kernel), by decide +kernel, ⟨passes_of (by decide +kernel), by decide +kernel⟩, ?_⟩
  · intro g hg
    fin_cases hg <;> exact ⟨passes_of (by decide +kernel), by decide +kernel⟩
  · intro p hp
    fin_cases hp <;> exact ⟨passes_of (by decide +kernel), by decide +kernel, tagInv_of (by decide +kernel),
      by decide +kernel, by decide +kernel⟩

theorem test_hyp_EraseRepliesSettleTheUnit (w : Word16) (mark : Bool) (h : w = 2998 ∨ w = 2999 ∨ w = 65535) :
    (erasing w mark).resetLow = false ∧ (erasing w mark).lawful = true ∧
    (erasing w mark).channels[(0 : Fin 4)].inFlight = some ⟨.erase 3, .unitManager, 0⟩ ∧ globalOf 0 3 = 3 ∧
    (erasing w mark).unit? 3 = some ⟨.erasing, w, 0, mark⟩ ∧ (erasing w mark).params.eMax = 3000 := by
  cases mark <;> rcases h with rfl | rfl | rfl <;> decide +kernel

theorem test_hyp_WearOnlyRises : (erasing 2999 false).lawful = true ∧ (erasing 2999 false).startup.stage = .ended ∧
    Instr.eraseDone 0 ≠ .formatUnitReset ∧ (erasing 2999 false).unit? 3 = some ⟨.erasing, 2999, 0, false⟩ ∧
    (after (.eraseDone 0) (erasing 2999 false)).unit? 3 = some ⟨.retired .worn, 3000, 0, false⟩ := by decide +kernel

/-- CkptInv and DeviceInv, read as decidable parts. -/
theorem ckptInv_of {s : State} (h : (s.ckpt.durableSlot = none ↔ s.ckpt.durableGen = 0) ∧
    s.ckpt.flight.all (fun f => decide (s.ckpt.durableGen ≠ 0xFFFFFFFF ∧
      f.snapshot.generation = s.ckpt.durableGen + 1 ∧ s.ckpt.durableSlot ≠ some f.target)) = true ∧
    (s.device = .starting → s.ckpt.flight = none) ∧
    s.formatRec.all (fun f => decide ((f.step ≠ .imageWrite → s.ckpt.flight = none) ∧
      (f.step = .imageWrite → s.ckpt.durableGen = 0)) && s.ckpt.flight.all fun g => decide (g.origin = .format)) = true) :
    CkptInv s where
  slot := h.1
  flight := all_some h.2.1
  starting := h.2.2.1
  early f e hf := by have := h.2.2.2; simp [e] at this; exact this.1.1.resolve_left hf
  own f g e e2 := by have := h.2.2.2; simp [e, e2] at this; exact this.2
  late f e hf := by have := h.2.2.2; simp [e] at this; exact this.1.2.resolve_left (not_not_intro hf)

theorem test_hyp_TablesStayLawful : tabled.lawful = true ∧ DeviceInv tabled ∧ CkptInv tabled ∧ HoldInv tabled ∧
    KeysInv tabled ∧ RecordedInv tabled ∧ ∃ t, step tabled = .next t := by
  refine ⟨by decide +kernel, by unfold DeviceInv; decide +kernel, ckptInv_of (by decide +kernel),
    holdInv_of (by decide +kernel), ⟨fun _ => by decide +kernel, fun _ => by decide +kernel⟩, ⟨?_, nofun⟩, _, rfl⟩
  intro g u hu hr
  have := all_units (s := tabled) (P := fun g u => tabled.ckpt.recordsBound g = true → u.state = .bound 0)
    (by decide +kernel) g u hu hr
  simp [this]

theorem test_hyp_HostMoveStarts : (ask 4 0 0 0 0).Passes .move (fr 4 9 0 0 0 0) [] ∧ (ask 4 0 0 0 0).keysLawful = true ∧
    base.map[0]? = some ⟨some 2, 4, none⟩ ∧ base.moves[chanOf 2] = none ∧ base.channels[chanOf 2].state = .online ∧
    base.unit? 2 = some ⟨.bound 0, 5, 0, false⟩ ∧ (ask 4 0 0 0 0).LeastWornFree (chanOf 2) 1 :=
  ⟨passes_of (by decide +kernel), by decide +kernel, by decide +kernel, by decide +kernel, by decide +kernel,
    by decide +kernel, leastWornFree_of (u := ⟨.free, 3, 0, false⟩) (by decide +kernel) (by decide +kernel)⟩

/-- Unit 2 marked: evacuation moves it to unit 1. Unmarked with W_spread 4: leveling moves it to unit 8 (5 + 4 ≤ 9), and
with W_spread 5 it does not. -/
def watched (mark : Bool) (spread : Word16) : State := { base with
  units := modifyIn base.units 2 fun u => { u with retirePending := mark }
  params := { base.params with wSpread := spread } }

theorem test_hyp_MonitorStartsAtMostOneMove_evacuation : (watched true 4).keysLawful = true ∧ (watched true 4).device = .ready ∧
    (watched true 4).channels[(0 : Fin 4)].state = .online ∧ (watched true 4).moves[(0 : Fin 4)] = none ∧
    (watched true 4).Evacuates 0 2 0 1 := by
  refine ⟨by decide +kernel, by decide +kernel, by decide +kernel, by decide +kernel,
    ⟨⟨.bound 0, 5, 0, true⟩, ⟨by decide +kernel, by decide +kernel, by decide +kernel, by decide +kernel, ⟨some 2, 4, none⟩,
      by decide +kernel⟩, rfl⟩, ?_, leastWornFree_of (u := ⟨.free, 3, 0, false⟩) (by decide +kernel) (by decide +kernel)⟩
  intro x v m h hp
  exact all_units (s := watched true 4) (P := fun x v => v.retirePending = true → 2 ≤ x) (by decide +kernel) x v h.1 hp

theorem test_hyp_MonitorStartsAtMostOneMove_leveling : (watched false 4).keysLawful = true ∧
    (watched false 4).device = .ready ∧ (watched false 4).moves[(0 : Fin 4)] = none ∧
    (¬∃ b n t, (watched false 4).Evacuates 0 b n t) ∧ (watched false 4).Levels 0 2 0 8 := by
  refine ⟨by decide +kernel, by decide +kernel, by decide +kernel, ?_, by decide +kernel, by decide +kernel,
    ⟨1, 8, ⟨.free, 3, 0, false⟩, ⟨.free, 9, 0, false⟩, by decide, ⟨by decide +kernel, by decide +kernel, rfl⟩,
      ⟨by decide +kernel, by decide +kernel, rfl⟩⟩,
    ⟨.bound 0, 5, 0, false⟩, ⟨.free, 9, 0, false⟩,
    ⟨by decide +kernel, by decide +kernel, by decide +kernel, by decide +kernel, ⟨some 2, 4, none⟩, by decide +kernel⟩,
    ⟨by decide +kernel, by decide +kernel, rfl⟩, ?_, ?_, by decide +kernel⟩
  · rintro ⟨b, n, t, ⟨u, hu, hp⟩, -⟩
    have := all_units (s := watched false 4) (P := fun _ v => v.retirePending = false) (by decide +kernel) b u hu.1
    rw [this] at hp; cases hp
  · intro x w m h
    exact all_units (s := watched false 4) (P := fun x w => chanOf x = 0 → w.holds = 0 → w.state.owner ≠ none →
      5 < w.wear.toNat ∨ ((5 : Word16) = w.wear ∧ 2 ≤ x)) (by decide +kernel) x w h.1 h.2.1 h.2.2.2.1 (by simp [h.2.2.1, UnitState.owner])
  · intro x w h
    exact all_units (s := watched false 4) (P := fun x w => chanOf x = 0 → w.state = .free →
      w.wear.toNat < 9 ∨ ((9 : Word16) = w.wear ∧ 8 ≤ x)) (by decide +kernel) x w h.1 h.2.1 h.2.2

/-- The hypotheses of CopyDoneCommitsOrEndsTheMove, and of CopyFailureEndsTheMove. -/
theorem test_hyp_CopyDoneCommitsOrEndsTheMove_CopyFailureEndsTheMove (p : MovePhase) (hp : p = .copying ∨ p = .abandoning) :
    (moving p).resetLow = false ∧ (moving p).lawful = true ∧ TagInv (moving p) ∧
    (moving p).channels[(0 : Fin 4)].inFlight = some ⟨.copy 2 1, .relocation, 0⟩ ∧
    (moving p).moves[(0 : Fin 4)] = some ⟨0, 2, 1, .host 0x81, p, 0⟩ ∧
    (moving p).unit? 1 = some ⟨.target 0, 3, 0, false⟩ ∧ (moving p).unit? 2 = some ⟨.bound 0, 5, 0, false⟩ ∧
    (p = .copying → (moving p).map[0]? = some ⟨some 2, 4, some 0⟩) := by
  rcases hp with rfl | rfl <;>
    exact ⟨by decide +kernel, by decide +kernel, tagInv_of (by decide +kernel), by decide +kernel, by decide +kernel,
      by decide +kernel, by decide +kernel, by decide +kernel⟩

theorem test_hyp_CheckpointIsAccepted : (ask 9 0 0 0 0).Passes .checkpoint (fr 9 9 0 0 0 0) [] ∧ base.ckpt.flight = none ∧
    base.ckpt.durableGen ≠ 0xFFFFFFFF ∧ base.ckpt.durableSlot = some .a ∧ base.channels[(1 : Fin 4)].state = .online :=
  ⟨passes_of (by decide +kernel), by decide +kernel⟩

/-- One channel of 64 units, so that both slots stand on it, with a BOUND, a RETIRED and 60 FREE units. -/
def snap : Snapshot where
  generation := 0xFFFFFFFF
  target := .b
  counts := #v[64, 0, 0, 0]
  generations := [3, 65535]
  params := Params.defaults
  units := (usableUnits #v[64, 0, 0, 0]).map fun g =>
    (g, if g = 2 then ⟨.bound 1, 7, true⟩ else if g = 63 then ⟨.retired .programFail, 65535, false⟩ else ⟨.free, 1, false⟩)

theorem test_hyp_WrittenImageIsValidAndLoads : snap.Recordable ∧
    ∃ s : State, s.counts = snap.counts :=
  ⟨⟨by decide +kernel, by decide +kernel, by decide +kernel, by decide +kernel, by decide +kernel, by decide +kernel,
    by
      have h : snap.units.all (fun p => match p.2.state with
        | .bound n => decide (n < snap.generations.length) | _ => true) = true := by decide +kernel
      intro p hp n hn
      have := List.all_eq_true.1 h p hp
      simpa [hn] using this,
    by decide +kernel,
    by
      have h : snap.units.all (fun p => match p.2.state with
        | .retired _ => !p.2.retirePending | _ => true) = true := by decide +kernel
      intro p hp c hc
      have := List.all_eq_true.1 h p hp
      simpa [hc] using this⟩,
    { base with channels := #v[on 64, gone, gone, gone] }, by decide +kernel⟩

theorem test_hyp_SlotEraseDonePlacesTheWrite : (saving .erasingSlot).resetLow = false ∧
    (saving .erasingSlot).channels[(1 : Fin 4)].inFlight = some ⟨.erase 0, .checkpoint, 0⟩ ∧
    (saving .erasingSlot).ckpt.flight = some ⟨.erasingSlot, .host 0x92, .b, base.takeSnapshot .b⟩ ∧
    (saving .erasingSlot).slotChannel .b = 1 ∧ (saving .erasingSlot).channels[(1 : Fin 4)].state = .online ∧
    (saving .erasingSlot).device = .ready := by decide +kernel

theorem test_hyp_CheckpointEndSortsTheWaiting (p : CkptPhase) : (saving p).resetLow = false ∧ (saving p).lawful = true ∧
    ((saving p).channels[(1 : Fin 4)].inFlight).map (·.owner) = some .checkpoint ∧
    (saving p).ckpt.flight = some ⟨p, .host 0x92, .b, base.takeSnapshot .b⟩ ∧ 0x92 ∈ (saving p).link.openTags := by
  cases p <;> decide +kernel

theorem test_hyp_CheckpointStateKept : DeviceInv (saving .writing) ∧ CkptInv (saving .writing) ∧
    ∃ t, step { saving .writing with pending := [.writeImageDone 1] } = .next t :=
  ⟨by unfold DeviceInv; decide +kernel, ckptInv_of (by decide +kernel), _, rfl⟩

/-- Classes 1, 2 and 3 of R120, each with work for an idle ONLINE channel, and a channel that is not ONLINE. -/
theorem test_hyp_ArbiterIssuesByPriority : base.channels[(0 : Fin 4)].state = .online ∧
    base.channels[(0 : Fin 4)].inFlight = none ∧ base.device = .ready ∧ base.eraseQueues[(0 : Fin 4)] = 3 :: [] ∧
    (moving .assigned).moves[(0 : Fin 4)] = some ⟨0, 2, 1, .host 0x81, .assigned, 0⟩ ∧
    (moving .assigned).channels[(0 : Fin 4)].inFlight = none ∧ base.channels[(2 : Fin 4)].state ≠ .online ∧
    (base.setPendingImage 0 (some ⟨.erase 0, .checkpoint⟩)).channels[(0 : Fin 4)].pendingImage =
      some ⟨.erase 0, .checkpoint⟩ := by decide +kernel

theorem test_hyp_StrayReplyIsCounted : base.resetLow = false ∧ base.channels[(2 : Fin 4)].inFlight = none ∧
    replyOf (.copyDone 2) = some (2, .done) := by decide +kernel

theorem test_hyp_RepliesAreMatchedByKind : replyOf (.eraseDone 1) ≠ none ∧
    replyOf (.eraseDone 1) = replyOf (.restartResetDone 1) := by decide +kernel

/-- The probe, a restart, and a fault for each owner: at the last tick of the deadline and at an unaccepted reply. -/
theorem test_hyp_LostOperationEndsByItsOwner :
    ({ erasing 1 false with tick := 40 } : State).lawful = true ∧ (OpKind.erase 3).deadline ≤ ((40 : Word32) - 0).toNat ∧
    (OpKind.erase 3).accepts .failRead = false ∧
    (erasing 1 false).unit? (globalOf 0 3) = some ⟨.erasing, 1, 0, false⟩ ∧
    ((moving .copying).lawful = true ∧ (moving .assigned).lawful = true) ∧ (saving .erasingSlot).lawful = true ∧
    (formatting .eraseB).lawful = true ∧ ((reading .readingB).lawful = true ∧ (reading .readingB).startup.stage = .readingB) ∧
    ((probing .identify).lawful = true ∧ (probing .identify).channels[(3 : Fin 4)].inFlight =
      some ⟨.identify, .stateControl, 0⟩) ∧
    ((restarting .reset).lawful = true ∧ (restarting .reset).channels[(1 : Fin 4)].restart = some (.host 0x74) ∧
      0x74 ∈ (restarting .reset).link.openTags) := by decide +kernel

/-- The records of reason CHANNEL: each host operation with its open tag, and a checkpoint of origin AUTO; a checkpoint's
slot erase pending behind the erase of a unit. -/
theorem test_hyp_LostOperationEndsByItsOwner_records :
    (∀ s ∈ [moving .copying, moving .assigned, moving .abandoning, saving .erasingSlot, saving .writing, formatting .eraseB,
      formatting .eraseA], s.lawful = true ∧ TagInv s) ∧
    (let s : State := { saving .writing with
        link := base.link
        ckpt := { base.ckpt with flight := some ⟨.writing, .auto, .b, base.takeSnapshot .b⟩ } };
      s.lawful = true ∧ s.moves[(1 : Fin 4)] = none ∧ s.channels[(1 : Fin 4)].pendingImage = none) ∧
    (let s : State := { erasing 1 false with
        link := (saving .erasingSlot).link, ckpt := (saving .erasingSlot).ckpt
        channels := (erasing 1 false).channels.set 0
          { (erasing 1 false).channels[(0 : Fin 4)] with pendingImage := some ⟨.erase 1, .checkpoint⟩ } };
      s.lawful = true ∧ TagInv s) := by
  refine ⟨fun s hs => ?_, by decide +kernel, by decide +kernel, tagInv_of (by decide +kernel)⟩
  fin_cases hs <;> exact ⟨by decide +kernel, tagInv_of (by decide +kernel)⟩

/-- The read of slot A lost with slot B on another channel ONLINE, and with slot B on the same channel; the read of slot B
lost. -/
theorem test_hyp_LostOperationEndsByItsOwner_reads : (reading .readingA).lawful = true ∧
    (reading .readingA).startup.stage = .readingA ∧ (reading .readingA).channels[(0 : Fin 4)].pendingImage = none ∧
    (reading .readingA).channels[(1 : Fin 4)].state = .online ∧
    ({ reading .readingA with
      channels := (reading .readingA).channels.set 1 gone } : State).lawful = true ∧
    (reading .readingB).startup.slotA = some .unread ∧ (reading .readingB).channels[(1 : Fin 4)].pendingImage = none := by
  decide +kernel

theorem test_hyp_RestartRunsItsSteps :
    (∃ s : State, s.Passes .restartChannel (fr 10 9 0 1 0 0) [] ∧ s.channels[(1 : Fin 4)].state = .faulted) ∧
    (restarting .reset).resetLow = false ∧ (restarting .reset).channels[(1 : Fin 4)].inFlight = some ⟨.reset, .restart, 0⟩ ∧
    (restarting .identify).channels[(1 : Fin 4)].inFlight = some ⟨.identify, .restart, 0⟩ ∧
    (64 : Word16).toNat = (restarting .identify).channels[(1 : Fin 4)].count :=
  ⟨⟨asks { base with channels := base.channels.set 1 ⟨.faulted, 64, none, none, some .deadline, none⟩ } (fr 10 9 0 1 0 0),
    passes_of (by decide +kernel), by decide +kernel⟩, by decide +kernel, by decide +kernel, by decide +kernel,
    by decide +kernel⟩

/-- A probe in progress and over, with channel 0 ONLINE and ABSENT; the two reads; the outcomes of the judgement. -/
theorem test_hyp_StartupRunsItsSteps : (probing .reset).resetLow = false ∧ (probing .reset).startup.stage = .probing ∧
    (probing .reset).channels[(3 : Fin 4)].state = .undetermined ∧
    (∀ c : Fin 4, ({ probing .reset with channels := base.channels } : State).channels[c].state ≠ .undetermined) ∧
    (∀ c : Fin 4, ({ probing .reset with channels := #v[gone, on 64, gone, gone] } : State).channels[c].state ≠ .undetermined) ∧
    (reading .readingA).startup.stage = .readingA ∧ (reading .readingB).startup.slotA = some .unread ∧
    (reading .readingA).channels[(0 : Fin 4)].inFlight = some ⟨.readImage 0, .stateControl, 0⟩ ∧
    judgeSlot #v[64, 0, 0, 0] .b .unread ≠ .valid := by decide +kernel

/-- An image for a geometry of four units: VALID in slot B, for which it was written; judged for slot A it is INTACT. -/
def tiny : Snapshot := ⟨2, .b, #v[4, 0, 0, 0], [9], Params.defaults, [(2, ⟨.bound 0, 7, false⟩), (3, ⟨.free, 1, false⟩)]⟩

theorem test_hyp_StartupRunsItsSteps_images : judgeSlot tiny.counts .b (.bytes tiny.image) = .valid ∧
    judgeSlot tiny.counts .a (.bytes tiny.image) = .intact ∧ tiny.image.length = 62 ∧
    judgeSlot tiny.counts .a (.bytes ({ tiny with target := .a } : Snapshot).image) = .valid := by decide +kernel

/-- The read of slot B lost with slot A read VALID; both slots stand on the one channel. -/
theorem test_hyp_LostOperationEndsByItsOwner_readB :
    let a : SlotRead := .bytes ({ tiny with target := .a } : Snapshot).image
    let s : State := flies { bare .starting with startup := ⟨.readingB, some a⟩, channels := #v[on 4, gone, gone, gone] }
      0 (.readImage 1) .stateControl
    s.lawful = true ∧ s.channels[(0 : Fin 4)].pendingImage = none ∧ judgeSlot s.counts .a a = .valid := by decide +kernel

theorem test_hyp_FormatRunsItsSteps :
    (asks (bare .unformatted) (fr 13 9 0 0 118 8)).Passes .format (fr 13 9 0 0 118 8) [] ∧
    (bare .unformatted).ckpt.flight = none ∧ (bare .unformatted).channels[(1 : Fin 4)].state = .online ∧
    (formatting .eraseB).channels[(1 : Fin 4)].inFlight = some ⟨.erase 0, .stateControl, 0⟩ ∧
    (formatting .eraseA).channels[(0 : Fin 4)].inFlight = some ⟨.erase 0, .stateControl, 0⟩ ∧
    (formatting .eraseA).formatRec = some ⟨.host 0x0D, 20, 8, false, .unformatted, .eraseA⟩ ∧
    0x0D ∈ (formatting .eraseA).link.openTags :=
  ⟨passes_of (by decide +kernel), by decide +kernel⟩

theorem test_hyp_FormatUnitResetRebuildsTheTables : (formatting .imageWrite).resetLow = false ∧
    (formatting .imageWrite).formatRec = some ⟨.host 0x0D, 20, 8, false, .unformatted, .imageWrite⟩ ∧
    (formatting .imageWrite).device = .formatting ∧ (formatting .imageWrite).ckpt = ⟨0, none, [], [], none⟩ ∧
    (formatting .imageWrite).channels[(0 : Fin 4)].state = .online ∧
    (∀ c : Fin 4, (formatting .imageWrite).channels[c].inFlight = none) := by decide +kernel

theorem test_hyp_ServiceIsEnteredAndLeft :
    (asks (inState .ready) (fr 11 9 0 0 0 0)).Passes .enterService (fr 11 9 0 0 0 0) [] ∧
    (∀ i : Fin 64, ((inState .ready).holds[i]).entry = none) ∧ (∀ c : Fin 4, (inState .ready).moves[c] = none) ∧
    (inState .ready).waiters = [] ∧
    (asks (inState .service) (fr 12 9 0 0 0 0)).Passes .leaveService (fr 12 9 0 0 0 0) [] :=
  ⟨passes_of (by decide +kernel), by decide +kernel, by decide +kernel, by decide +kernel, passes_of (by decide +kernel)⟩

theorem test_hyp_DeviceStateFollowsItsTable : DeviceInv (formatting .eraseA) ∧ CkptInv (formatting .eraseA) ∧
    ∃ t, exec (.formatSlotEraseFail 0) (formatting .eraseA) = .next t :=
  ⟨by unfold DeviceInv; decide +kernel, ckptInv_of (by decide +kernel), _, rfl⟩

/-- The ends of the id ranges, 1, 5 and 19, and the ids beside them; CLEAR_COUNTERS admitted and not. -/
theorem test_hyp_ReadersReportAndCountersClear : (ask 14 0 1 0 0).Finds .getParameter (fr 14 9 0 1 0 0) [] ∧
    (ask 14 0 6 0 0).Finds .getParameter (fr 14 9 0 6 0 0) [] ∧ (ask 14 1 5 0 0).Finds .getParameter (fr 14 9 1 5 0 0) [] ∧
    (ask 16 0 19 0 0).Finds .readCounter (fr 16 9 0 19 0 0) [] ∧ (ask 17 0 0 0 0).Finds .clearCounters (fr 17 9 0 0 0 0) [] ∧
    (asks (formatting .eraseA) (fr 17 9 0 0 0 0)).Finds .clearCounters (fr 17 9 0 0 0 0) [] :=
  ⟨finds_of (by decide +kernel), finds_of (by decide +kernel), finds_of (by decide +kernel), finds_of (by decide +kernel),
    finds_of (by decide +kernel), finds_of (by decide +kernel)⟩

/-- Each parameter at an end of its range (R171). -/
theorem test_hyp_SetParameterTakesEffect : (ask 15 0 1 1 0).Passes .setParameter (fr 15 9 0 1 1 0) [] ∧
    (ask 15 0 2 65000 0).Passes .setParameter (fr 15 9 0 2 65000 0) [] ∧
    (ask 15 0 3 0 0).Passes .setParameter (fr 15 9 0 3 0 0) [] ∧ (ask 15 0 4 1024 0).Passes .setParameter (fr 15 9 0 4 1024 0) [] ∧
    (ask 15 0 5 512 0).Passes .setParameter (fr 15 9 0 5 512 0) [] :=
  ⟨passes_of (by decide +kernel), passes_of (by decide +kernel), passes_of (by decide +kernel), passes_of (by decide +kernel),
    passes_of (by decide +kernel)⟩

theorem test_hyp_ParametersStayInRange : ParamInv (formatting .imageWrite) ∧
    ∃ t, step { formatting .imageWrite with pending := [.tick] } = .next t :=
  ⟨⟨by unfold Params.Legal; decide +kernel, all_some (by decide +kernel)⟩, _, rfl⟩

theorem test_hyp_OpenTagsAreHeldOnce : (saving .writing).lawful = true ∧ DeviceInv (saving .writing) ∧
    CkptInv (saving .writing) ∧ TagInv (saving .writing) ∧
    ∃ t, step { saving .writing with pending := [.writeImageDone 1] } = .next t :=
  ⟨by decide +kernel, by unfold DeviceInv; decide +kernel, ckptInv_of (by decide +kernel), tagInv_of (by decide +kernel), _, rfl⟩

end Sys2Proof.Tests
end

/-! SUPPORT. The unit table, counters, notices, retirement and unit release: what each does, once (R25, R29, R44,
R51, R52, R162, R177); with O33 and O24. -/
namespace Sys2Proof.Machine

/-! ### The unit table -/

theorem lookup_map_value {β γ : Type} (us : List (Nat × β)) (F : Nat → β → γ) (x : Nat) :
    (us.map fun p => (p.1, F p.1 p.2)).lookup x = (us.lookup x).map (F x) := by
  induction us with
  | nil => rfl
  | cons p us ih =>
    obtain ⟨y, v⟩ := p
    simp only [List.map_cons, List.lookup_cons]
    by_cases h : x = y
    · simp [h]
    · simp [beq_false_of_ne h, ih]

theorem modifyIn_eq_map (us : List (Nat × UnitRec)) (g : Nat) (f : UnitRec → UnitRec) :
    modifyIn us g f = us.map fun p => (p.1, if p.1 = g then f p.2 else p.2) :=
  List.map_congr_left fun p _ => by split <;> rfl

theorem unitIn_modifyIn (us : List (Nat × UnitRec)) (g x : Nat) (f : UnitRec → UnitRec) :
    unitIn (modifyIn us g f) x = if x = g then (unitIn us g).map f else unitIn us x := by
  rw [modifyIn_eq_map, unitIn, lookup_map_value us (fun y u => if y = g then f u else u)]
  by_cases h : x = g
  · simp [h, unitIn]
  · simp [h, unitIn]

/-- A change of one unit's record is seen at that unit alone. -/
theorem State.unit?_modifyUnit (s : State) (g x : Nat) (f : UnitRec → UnitRec) :
    (s.modifyUnit g f).unit? x = if x = g then (s.unit? g).map f else s.unit? x :=
  unitIn_modifyIn s.units g x f

theorem State.unit?_of_units {s t : State} (h : t.units = s.units) (g : Nat) : t.unit? g = s.unit? g := by
  simp [State.unit?, h]

@[simp] theorem State.modifyUnit_units (s : State) (g : Nat) (f : UnitRec → UnitRec) :
    (s.modifyUnit g f).units = modifyIn s.units g f := rfl

@[simp] theorem State.setUnitState_units (s : State) (g : Nat) (st : UnitState) :
    (s.setUnitState g st).units = modifyIn s.units g fun u => { u with state := st } := rfl

/-- R44: what a retirement makes of a unit's record. -/
def UnitRec.retire (cause : Cause) (u : UnitRec) : UnitRec := { u with state := .retired cause, retirePending := false }

@[simp] theorem State.retireUnit_units (s : State) (g : Nat) (cause : Cause) :
    (s.retireUnit g cause).units = modifyIn s.units g (UnitRec.retire cause) := by
  simp only [State.retireUnit, State.postLowSpares_frame, State.post_frame, State.count_frame, State.modifyUnit_units]
  rfl

@[simp] theorem State.dirtyTail_units (s : State) (g : Nat) :
    (s.dirtyTail g).units = modifyIn s.units g fun u => { u with state := .dirty } := by simp [State.dirtyTail]

@[simp] theorem State.dirtyHead_units (s : State) (g : Nat) :
    (s.dirtyHead g).units = modifyIn s.units g fun u => { u with state := .dirty } := by simp [State.dirtyHead]

theorem State.unit?_modifyIn {s t : State} {g : Nat} {f : UnitRec → UnitRec} (h : t.units = modifyIn s.units g f)
    (x : Nat) : t.unit? x = if x = g then (s.unit? g).map f else s.unit? x := by
  simp only [State.unit?, h]; exact unitIn_modifyIn s.units g x f

/-! ### Counters -/

theorem Counter.idx_injective : Function.Injective Counter.idx :=
  Function.LeftInverse.injective (g := fun i => Counter.ofNat i.val) fun k => by cases k <;> rfl

theorem State.counter_countBy (s : State) (j k : Counter) (n : Nat) :
    (s.countBy j n).counter k = if k = j then s.counter k + BitVec.ofNat 32 n else s.counter k := by
  by_cases h : k = j
  · subst h; simp [State.counter, State.countBy]
  · have hne : j.idx.val ≠ k.idx.val := fun e => h (Counter.idx_injective (Fin.ext e.symm))
    simp [State.counter, State.countBy, h, hne]

theorem State.counter_of_counters {s t : State} (h : t.counters = s.counters) (k : Counter) :
    t.counter k = s.counter k := by simp [State.counter, h]

theorem State.counter_count (s : State) (j k : Counter) :
    (s.count j).counter k = if k = j then s.counter k + 1 else s.counter k := s.counter_countBy j k 1

/-! ### Notices -/

theorem State.post_link (s : State) (k : NoticeKind) (r : Record) : (s.post k r).link = s.link.post k r := by
  unfold State.post; dsimp only; split <;> simp

/-- R162: a posted notice counts nothing but, where it merges, itself. -/
theorem State.post_counter (s : State) (k : NoticeKind) (r : Record) {j : Counter} (hj : j ≠ .noticesCoalesced) :
    (s.post k r).counter j = s.counter j := by
  unfold State.post; dsimp only
  split
  · rw [State.counter_count, if_neg hj]; rfl
  · rfl

/-! ### Retirement -/

theorem State.postLowSpares_link (s : State) : s.postLowSpares.link =
    if s.spareCount < (s.params.sMin.toNat : Int) then
      s.link.post .lowSpares (lowSparesNotice s.spareCount s.params.sMin) else s.link := by
  unfold State.postLowSpares; split <;> simp [State.post_link]

theorem State.postLowSpares_counter (s : State) {j : Counter} (hj : j ≠ .noticesCoalesced) :
    s.postLowSpares.counter j = s.counter j := by
  unfold State.postLowSpares
  split
  · exact s.post_counter _ _ hj
  · rfl

/-- R51: the spare count is a number of the unit table, the map and the geometry alone. -/
theorem State.spareCount_of_tables {s t : State} (hu : t.units = s.units) (hm : t.map = s.map)
    (hc : t.channels = s.channels) : t.spareCount = s.spareCount := by
  simp [State.spareCount, State.presentUnits, State.counts, State.retiredSet, State.unitsWhere, hu, hm, hc]

/-- R44, R52: the notices of a retirement, by the spare count that it leaves. -/
theorem State.retireUnit_link (s : State) (g : Nat) (cause : Cause) :
    (s.retireUnit g cause).link = s.link.retirement g cause (s.retireUnit g cause).spareCount s.params.sMin := by
  have hspare : (s.retireUnit g cause).spareCount =
      (((s.modifyUnit g (UnitRec.retire cause)).count .retirements).post .unitRetired
        (unitRetiredNotice g cause)).spareCount :=
    State.spareCount_of_tables (by simp) (by simp) (by simp)
  rw [hspare]
  simp only [State.retireUnit, State.postLowSpares_link, Link.retirement, State.post_link, State.post_frame,
    State.count_frame, State.modifyUnit_frame]
  rfl

theorem State.retireUnit_counter (s : State) (g : Nat) (cause : Cause) {j : Counter} (hj : j ≠ .noticesCoalesced) :
    (s.retireUnit g cause).counter j = if j = .retirements then s.counter j + 1 else s.counter j := by
  simp only [State.retireUnit]
  rw [State.postLowSpares_counter _ hj, State.post_counter _ _ _ hj, State.counter_count]
  rfl

theorem State.retireUnit_counted (s : State) (g : Nat) (cause : Cause) :
    Counted s (s.retireUnit g cause) (fun | .retirements => 1 | _ => 0) := by
  intro k hk
  rw [s.retireUnit_counter g cause hk]
  cases k <;> simp

theorem State.unit?_retireUnit (s : State) (g x : Nat) (cause : Cause) :
    (s.retireUnit g cause).unit? x = if x = g then (s.unit? g).map (UnitRec.retire cause) else s.unit? x :=
  State.unit?_modifyIn (s.retireUnit_units g cause) x

theorem modifyIn_cons (p : Nat × UnitRec) (us : List (Nat × UnitRec)) (g : Nat) (f : UnitRec → UnitRec) :
    modifyIn (p :: us) g f = (if p.1 = g then (p.1, f p.2) else p) :: modifyIn us g f := rfl

theorem modifyIn_of_not_mem {us : List (Nat × UnitRec)} {g : Nat} (f : UnitRec → UnitRec)
    (h : g ∉ us.map (·.1)) : modifyIn us g f = us :=
  (List.map_congr_left fun p hp => if_neg fun e : p.1 = g => h (e ▸ List.mem_map_of_mem hp)).trans us.map_id

/-- The record of one unit changes from one without to one with a property: the table has one more with it. -/
theorem countP_modifyIn (p : UnitRec → Bool) {us : List (Nat × UnitRec)} {g : Nat} {u : UnitRec}
    (f : UnitRec → UnitRec) (hkeys : (us.map (·.1)).Nodup) (hu : unitIn us g = some u) (hold : p u = false)
    (hnew : p (f u) = true) : (modifyIn us g f).countP (fun q => p q.2) = us.countP (fun q => p q.2) + 1 := by
  induction us with
  | nil => simp [unitIn] at hu
  | cons q us ih =>
    obtain ⟨y, v⟩ := q
    obtain ⟨hy, hkeys⟩ := List.nodup_cons.1 hkeys
    rw [unitIn, List.lookup_cons] at hu
    rw [modifyIn_cons, List.countP_cons, List.countP_cons]
    by_cases h : y = g
    · subst h
      have huv : v = u := by simpa using hu
      simp [modifyIn_of_not_mem f hy, huv, hold, hnew]
    · have hu' : unitIn us g = some u := by simpa [unitIn, beq_false_of_ne (Ne.symm h)] using hu
      simp only [h, if_false, ih hkeys hu']
      omega

/-- R25: the unit table stands in ascending number. -/
theorem State.keys_ascending {s : State} (h : s.keysLawful = true) : (s.units.map (·.1)).Pairwise (· < ·) := by
  simp only [State.keysLawful, Bool.and_eq_true, decide_eq_true_eq] at h
  obtain ⟨⟨hkeys, -⟩, -⟩ := h
  exact hkeys

/-- R25: the numbers of the unit table are distinct. -/
theorem State.keys_nodup {s : State} (h : s.keysLawful = true) : (s.units.map (·.1)).Nodup :=
  (State.keys_ascending h).imp fun hlt => Nat.ne_of_lt hlt

theorem State.unitsWhere_length (s : State) (p : UnitRec → Bool) :
    (s.unitsWhere p).length = s.units.countP (fun q => p q.2) := by
  rw [State.unitsWhere, List.length_map, List.countP_eq_length_filter]

theorem UnitState.isRetired_eq_false {st : UnitState} (h : ∀ c, st ≠ .retired c) : st.isRetired = false := by
  cases st with
  | retired c => exact absurd rfl (h c)
  | free | dirty | erasing | bound | target | draining | waiting => rfl

/-- R51: the retirement of a unit that was not RETIRED takes one from the spare count. -/
theorem State.retireUnit_spareCount {s : State} {g : Nat} {u : UnitRec} (cause : Cause) (hkeys : s.keysLawful = true)
    (hu : s.unit? g = some u) (hlive : ∀ c, u.state ≠ .retired c) :
    (s.retireUnit g cause).spareCount = s.spareCount - 1 := by
  have hset : (s.retireUnit g cause).retiredSet.length = s.retiredSet.length + 1 := by
    simp only [State.retiredSet, State.unitsWhere_length, State.retireUnit_units]
    exact countP_modifyIn (fun u => u.state.isRetired) _ (State.keys_nodup hkeys) hu
      (UnitState.isRetired_eq_false hlive) rfl
  simp only [State.spareCount, State.presentUnits, State.counts, hset, State.retireUnit_frame]
  omega

/-- Settles O33: the unit, the other units, the spare count, the counters and the notices, by the laws of a
retirement. -/
theorem retirementIsCountedAndReported : Obligations.RetirementIsCountedAndReported := by
  intro s g cause u hkeys hu hlive t
  refine ⟨?_, fun x hx => ?_, ?_, s.retireUnit_counted g cause, ?_⟩
  · simp [t, State.unit?_retireUnit, hu, UnitRec.retire]
  · simp [t, State.unit?_retireUnit, hx]
  · exact State.retireUnit_spareCount cause hkeys hu hlive
  · rw [← State.retireUnit_spareCount cause hkeys hu hlive]
    exact s.retireUnit_link g cause

/-! ### Unit release -/

theorem State.unit?_setUnitState (s : State) (g x : Nat) (st : UnitState) :
    (s.setUnitState g st).unit? x = if x = g then (s.unit? g).map fun u => { u with state := st } else s.unit? x :=
  s.unit?_modifyUnit g x _

theorem State.unit?_dirtyTail (s : State) (g x : Nat) :
    (s.dirtyTail g).unit? x = if x = g then (s.unit? g).map fun u => { u with state := .dirty } else s.unit? x :=
  State.unit?_modifyIn (s.dirtyTail_units g) x

theorem State.dirtyTail_eraseQueues (s : State) (g : Nat) :
    (s.dirtyTail g).eraseQueues = s.eraseQueues.set (chanOf g) (s.eraseQueues[chanOf g] ++ [g]) := rfl

/-- R29: the four outcomes of unit release, in order. -/
theorem State.releaseUnit_of_some {s : State} {g : Nat} {u : UnitRec} (hu : s.unit? g = some u) :
    s.releaseUnit g =
      if u.retirePending then s.retireUnit g .host
      else if 0 < u.holds then s.setUnitState g .draining
      else if s.ckpt.recordsBound g then s.setUnitState g .waiting
      else s.dirtyTail g := by
  simp only [State.releaseUnit, hu]

theorem State.unit?_releaseUnit {s : State} {g : Nat} {u : UnitRec} (hu : s.unit? g = some u) (x : Nat) :
    (s.releaseUnit g).unit? x = if x = g then some (released (s.ckpt.recordsBound g) u) else s.unit? x := by
  obtain ⟨st, wear, holds, mark⟩ := u
  rw [State.releaseUnit_of_some hu]
  cases mark with
  | true => simp [State.unit?_retireUnit, hu, released, UnitRec.retire]
  | false =>
    by_cases hh : 0 < holds
    · simp [State.unit?_setUnitState, hu, released, hh]
    · cases hb : s.ckpt.recordsBound g with
      | true => simp [State.unit?_setUnitState, hu, released, hh]
      | false => simp [State.unit?_dirtyTail, hu, released, hh]

theorem State.joinsTail_releaseUnit {s : State} {g : Nat} {u : UnitRec} (hu : s.unit? g = some u) :
    JoinsTail s (s.releaseUnit g) g := by
  have hst : (s.releaseUnit g).stateOf g = some (released (s.ckpt.recordsBound g) u).state := by
    simp [State.stateOf, State.unit?_releaseUnit hu]
  rw [JoinsTail, hst, State.releaseUnit_of_some hu]
  cases hm : u.retirePending with
  | true => simp [released, hm]
  | false =>
    by_cases hh : 0 < u.holds
    · simp [released, hm, hh]
    · cases hb : s.ckpt.recordsBound g with
      | true => simp [released, hm, hh]
      | false => simp [released, hm, hh, State.dirtyTail_eraseQueues]

/-- R29: a unit without retire_pending is let go without a notice and without a count. -/
theorem State.releaseUnit_silent {s : State} {g : Nat} {u : UnitRec} (hu : s.unit? g = some u)
    (hm : u.retirePending = false) : (s.releaseUnit g).link = s.link ∧ (s.releaseUnit g).counters = s.counters := by
  rw [State.releaseUnit_of_some hu, if_neg (by simp [hm])]
  split
  · simp
  · split <;> simp

theorem State.releaseUnit_marked {s : State} {g : Nat} {u : UnitRec} (hu : s.unit? g = some u)
    (hm : u.retirePending = true) : s.releaseUnit g = s.retireUnit g .host := by
  rw [State.releaseUnit_of_some hu, if_pos hm]

/-- R29, R44: a unit with retire_pending is retired at its release, counted and reported. -/
theorem State.releaseUnit_reported {s : State} {g : Nat} {u : UnitRec} (hu : s.unit? g = some u)
    (hm : u.retirePending = true) :
    (s.releaseUnit g).link = s.link.retirement g .host (s.releaseUnit g).spareCount s.params.sMin ∧
    (s.releaseUnit g).counter .retirements = s.counter .retirements + 1 := by
  rw [State.releaseUnit_marked hu hm]
  exact ⟨s.retireUnit_link g .host, s.retireUnit_counter g .host (by decide)⟩

theorem State.sameControl_releaseUnit (s : State) (g : Nat) : s.SameControl (s.releaseUnit g) := by
  simp [State.SameControl]

/-- Settles O24: the outcome and its frame, by the four branches of unit release. -/
theorem unitReleaseTakesTheFirstOutcome : Obligations.UnitReleaseTakesTheFirstOutcome := by
  intro s g u _ hu _ _ t
  refine ⟨?_, fun x hx => ?_, State.joinsTail_releaseUnit hu, ?_, ?_, ?_, ?_, ?_, ?_, s.sameControl_releaseUnit g,
    State.releaseUnit_silent hu, State.releaseUnit_reported hu⟩
  · simp [t, State.unit?_releaseUnit hu]
  · simp [t, State.unit?_releaseUnit hu, hx]
  all_goals simp [t]


end Sys2Proof.Machine

/-! SUPPORT. The free pool and the selections made from it (R32, R34); with O32. -/
namespace Sys2Proof.Machine

/-! ### The free pool -/

/-- R25: with distinct numbers, the records of the table are what `unitIn` answers. -/
theorem mem_iff_unitIn {us : List (Nat × UnitRec)} (hkeys : (us.map (·.1)).Nodup) (g : Nat) (u : UnitRec) :
    (g, u) ∈ us ↔ unitIn us g = some u := by
  induction us with
  | nil => simp [unitIn]
  | cons q us ih =>
    obtain ⟨y, v⟩ := q
    obtain ⟨hy, hkeys⟩ := List.nodup_cons.1 hkeys
    rw [unitIn, List.lookup_cons, List.mem_cons]
    by_cases h : g = y
    · subst h
      have hnot : (g, u) ∉ us := fun hm => hy (List.mem_map_of_mem (f := (·.1)) hm)
      simp [hnot, eq_comm]
    · simpa [h, beq_false_of_ne h, unitIn] using ih hkeys

theorem poolBefore_iff (p q : Nat × UnitRec) :
    poolBefore p q = true ↔ p.2.wear.toNat < q.2.wear.toNat ∨ (p.2.wear = q.2.wear ∧ p.1 < q.1) := by
  simp [poolBefore]

theorem poolBefore_trans {p q r : Nat × UnitRec} (hpq : poolBefore p q = true) (hqr : poolBefore q r = true) :
    poolBefore p r = true := by
  simp only [poolBefore_iff, ← BitVec.toNat_inj] at *
  omega

/-- R32: of two units with different numbers one stands before the other. -/
theorem poolBefore_total {p q : Nat × UnitRec} (hne : p.1 ≠ q.1) (h : ¬ poolBefore p q = true) :
    poolBefore q p = true := by
  simp only [poolBefore_iff, ← BitVec.toNat_inj] at *
  omega

theorem poolInsert_perm (p : Nat × UnitRec) (l : List (Nat × UnitRec)) : (poolInsert p l).Perm (p :: l) := by
  induction l with
  | nil => exact .refl _
  | cons q l ih =>
    rw [poolInsert]
    split
    · exact .refl _
    · exact (ih.cons q).trans (.swap p q l)

theorem poolInsert_pairwise {p : Nat × UnitRec} {l : List (Nat × UnitRec)} (hnew : ∀ q ∈ l, p.1 ≠ q.1)
    (hl : l.Pairwise fun a b => poolBefore a b = true) :
    (poolInsert p l).Pairwise fun a b => poolBefore a b = true := by
  induction l with
  | nil => simp [poolInsert]
  | cons q l ih =>
    obtain ⟨hq, hl'⟩ := List.pairwise_cons.1 hl
    rw [poolInsert]
    split
    · next hpq =>
      refine List.pairwise_cons.2 ⟨fun r hr => ?_, hl⟩
      obtain rfl | hr := List.mem_cons.1 hr
      · exact hpq
      · exact poolBefore_trans hpq (hq r hr)
    · next hpq =>
      refine List.pairwise_cons.2 ⟨fun r hr => ?_, ih (fun r hr => hnew r (.tail _ hr)) hl'⟩
      obtain rfl | hr := List.mem_cons.1 ((poolInsert_perm p l).mem_iff.1 hr)
      · exact poolBefore_total (hnew q (.head _)) hpq
      · exact hq r hr

theorem foldr_poolInsert_perm (l : List (Nat × UnitRec)) : (l.foldr poolInsert []).Perm l := by
  induction l with
  | nil => exact .refl _
  | cons p l ih => exact (poolInsert_perm p _).trans (ih.cons p)

theorem foldr_poolInsert_pairwise {l : List (Nat × UnitRec)} (hkeys : (l.map (·.1)).Nodup) :
    (l.foldr poolInsert []).Pairwise fun a b => poolBefore a b = true := by
  induction l with
  | nil => exact .nil
  | cons p l ih =>
    obtain ⟨hp, hkeys⟩ := List.nodup_cons.1 hkeys
    refine poolInsert_pairwise (fun q hq e => hp ?_) (ih hkeys)
    exact List.mem_map.2 ⟨q, (foldr_poolInsert_perm l).mem_iff.1 hq, e.symm⟩

/-- R32: the free pool holds the FREE units of the table, each once. -/
theorem State.freePool_perm (s : State) : s.freePool.Perm (s.units.filter fun p => p.2.state.isFree) :=
  foldr_poolInsert_perm _

/-- R32: the free pool stands in ascending wear, ties in ascending number. -/
theorem State.freePool_pairwise {s : State} (h : s.keysLawful = true) :
    s.freePool.Pairwise fun p q => poolBefore p q = true :=
  foldr_poolInsert_pairwise ((State.keys_nodup h).sublist (List.filter_sublist.map _))

theorem State.mem_freePool {s : State} (h : s.keysLawful = true) (g : Nat) (u : UnitRec) :
    (g, u) ∈ s.freePool ↔ s.unit? g = some u ∧ u.state = .free := by
  rw [s.freePool_perm.mem_iff, List.mem_filter, mem_iff_unitIn (State.keys_nodup h)]
  simp [State.unit?, UnitState.isFree]

/-- In a list in order, the first element that satisfies a test stands before every other that does. -/
theorem find?_before {α : Type} {r : α → α → Prop} {l : List α} {p : α → Bool} {a b : α} (hl : l.Pairwise r)
    (ha : l.find? p = some a) (hb : b ∈ l) (hpb : p b = true) : b = a ∨ r a b := by
  obtain ⟨-, before, behind, rfl, hbefore⟩ := List.find?_eq_some_iff_append.1 ha
  obtain ⟨-, hbehind, -⟩ := List.pairwise_append.1 hl
  obtain hb | hb := List.mem_append.1 hb
  · exact absurd hpb (by simpa using hbefore b hb)
  · obtain rfl | hb := List.mem_cons.1 hb
    · exact .inl rfl
    · exact .inr ((List.pairwise_cons.1 hbehind).1 b hb)

/-- R34: the first unit of the pool that satisfies a test is the least worn that does, ties to the lowest number. -/
theorem State.freePool_find_some {s : State} (h : s.keysLawful = true) {p : Nat × UnitRec → Bool}
    {a : Nat × UnitRec} (ha : s.freePool.find? p = some a) :
    s.unit? a.1 = some a.2 ∧ a.2.state = .free ∧ p a = true ∧
      ∀ x v, s.unit? x = some v → v.state = .free → p (x, v) = true →
        a.2.wear.toNat < v.wear.toNat ∨ (a.2.wear = v.wear ∧ a.1 ≤ x) := by
  obtain ⟨hunit, hfree⟩ := (State.mem_freePool h a.1 a.2).1 (List.mem_of_find?_eq_some ha)
  refine ⟨hunit, hfree, List.find?_some ha, fun x v hx hv hp => ?_⟩
  obtain rfl | hlt := find?_before (State.freePool_pairwise h) ha ((State.mem_freePool h x v).2 ⟨hx, hv⟩) hp
  · exact .inr ⟨rfl, le_rfl⟩
  · rw [poolBefore_iff] at hlt
    exact hlt.imp_right fun ⟨hw, hk⟩ => ⟨hw, hk.le⟩

theorem State.freePool_find_none {s : State} (h : s.keysLawful = true) {p : Nat × UnitRec → Bool}
    (hn : s.freePool.find? p = none) {x : Nat} {v : UnitRec} (hx : s.unit? x = some v) (hv : v.state = .free) :
    p (x, v) = false := by
  simpa using List.find?_eq_none.1 hn (x, v) ((State.mem_freePool h x v).2 ⟨hx, hv⟩)

theorem State.online_iff (s : State) (c : Fin 4) : s.online c = true ↔ s.channels[c].state = .online := by
  simp [State.online]

theorem State.leastWornFree_eq_find (s : State) (c : Fin 4) :
    s.leastWornFree c = (s.freePool.find? fun p => chanOf p.1 == c).map (·.1) := by
  rw [State.leastWornFree, State.freeOn, List.head?_filter]

/-- R34: a channel has at most one least-worn FREE unit of lowest number. -/
theorem State.LeastWornFree.unique {s : State} {c : Fin 4} {g g' : Nat} (h : s.LeastWornFree c g)
    (h' : s.LeastWornFree c g') : g = g' := by
  obtain ⟨u, hu, hmin⟩ := h
  obtain ⟨u', hu', hmin'⟩ := h'
  have := hmin g' u' hu'
  have := hmin' g u hu
  simp only [← BitVec.toNat_inj] at *
  omega

theorem State.leastWornFree_some {s : State} (h : s.keysLawful = true) {c : Fin 4} {g : Nat}
    (hg : s.leastWornFree c = some g) : s.LeastWornFree c g := by
  rw [State.leastWornFree_eq_find, Option.map_eq_some_iff] at hg
  obtain ⟨a, ha, rfl⟩ := hg
  obtain ⟨hunit, hfree, hc, hmin⟩ := State.freePool_find_some h ha
  refine ⟨a.2, ⟨hunit, beq_iff_eq.1 hc, hfree⟩, fun x v ⟨hx, hxc, hv⟩ => hmin x v hx hv (beq_iff_eq.2 hxc)⟩

theorem State.leastWornFree_iff {s : State} (h : s.keysLawful = true) (c : Fin 4) (g : Nat) :
    s.leastWornFree c = some g ↔ s.LeastWornFree c g := by
  refine ⟨State.leastWornFree_some h, fun hg => ?_⟩
  cases hl : s.leastWornFree c with
  | some g' => rw [(State.leastWornFree_some h hl).unique hg]
  | none =>
    obtain ⟨u, ⟨hunit, hc, hfree⟩, -⟩ := hg
    rw [State.leastWornFree_eq_find, Option.map_eq_none_iff] at hl
    have := State.freePool_find_none h hl hunit hfree
    simp [hc] at this

theorem mostWorn_eq_none {l : List (Nat × UnitRec)} (h : mostWorn l = none) : l = [] := by
  cases l with
  | nil => rfl
  | cons p l =>
    rw [mostWorn] at h
    split at h
    · cases h
    · split at h <;> cases h

/-- R34: of a list in ascending number, `mostWorn` takes the most worn, ties to the lowest number. -/
theorem mostWorn_some {l : List (Nat × UnitRec)} {a : Nat × UnitRec} (hl : (l.map (·.1)).Pairwise (· < ·))
    (ha : mostWorn l = some a) : a ∈ l ∧
      ∀ b ∈ l, b.2.wear.toNat < a.2.wear.toNat ∨ (a.2.wear = b.2.wear ∧ a.1 ≤ b.1) := by
  induction l generalizing a with
  | nil => simp [mostWorn] at ha
  | cons p l ih =>
    obtain ⟨hp, hl⟩ := List.pairwise_cons.1 hl
    have hlow : ∀ b ∈ l, p.1 < b.1 := fun b hb => hp b.1 (List.mem_map_of_mem hb)
    rw [mostWorn] at ha
    cases hm : mostWorn l with
    | none =>
      have hnil : l = [] := mostWorn_eq_none hm
      simp only [hm] at ha
      cases ha
      simp [hnil]
    | some q =>
      obtain ⟨hq, hmax⟩ := ih hl hm
      simp only [hm] at ha
      split at ha
      · next hlt =>
        cases ha
        refine ⟨.tail _ hq, fun b hb => ?_⟩
        obtain rfl | hb := List.mem_cons.1 hb
        · exact .inl hlt
        · exact hmax b hb
      · next hge =>
        cases ha
        refine ⟨.head _, fun b hb => ?_⟩
        obtain rfl | hb := List.mem_cons.1 hb
        · exact .inr ⟨rfl, le_rfl⟩
        · have := hmax b hb
          have := hlow b hb
          simp only [← BitVec.toNat_inj] at *
          omega

theorem State.mostWornFree_some {s : State} (h : s.keysLawful = true) {c : Fin 4} {g : Nat} {u : UnitRec}
    (hg : s.mostWornFree c = some (g, u)) : s.FreeUnit c g u ∧
      ∀ x v, s.FreeUnit c x v → v.wear.toNat < u.wear.toNat ∨ (u.wear = v.wear ∧ g ≤ x) := by
  have hmem (x : Nat) (v : UnitRec) :
      (x, v) ∈ (s.units.filter fun p => p.2.state.isFree && (chanOf p.1 == c)) ↔ s.FreeUnit c x v := by
    rw [List.mem_filter, mem_iff_unitIn (State.keys_nodup h)]
    simp [State.FreeUnit, State.unit?, UnitState.isFree, and_comm]
  obtain ⟨hin, hmax⟩ := mostWorn_some ((State.keys_ascending h).sublist (List.filter_sublist.map _)) hg
  exact ⟨(hmem g u).1 hin, fun x v hx => hmax (x, v) ((hmem x v).2 hx)⟩

/-- Settles O32: each selection is the first unit of the pool, or of the table, that a test lets through. -/
theorem freePoolKeepsWearOrder : Obligations.FreePoolKeepsWearOrder := by
  intro s h
  refine ⟨s.freePool_perm, (State.freePool_pairwise h).imp fun {p q} => (poolBefore_iff p q).1, fun g hg => ?_,
    fun hn x v hx hv => ?_, State.leastWornFree_iff h, fun c g u => State.mostWornFree_some h⟩
  · obtain ⟨a, ha, rfl⟩ := Option.map_eq_some_iff.1 hg
    obtain ⟨hunit, hfree, hon, hmin⟩ := State.freePool_find_some h ha
    exact ⟨a.2, hunit, hfree, (s.online_iff _).1 hon, fun x v hx hv hc => hmin x v hx hv ((s.online_iff _).2 hc)⟩
  · have hoff := State.freePool_find_none h (Option.map_eq_none_iff.1 hn) hx hv
    exact fun hc => by simp [(s.online_iff _).2 hc] at hoff

end Sys2Proof.Machine

/-! SUPPORT. Wear (R25, R38, R46): which operations keep it, and which commands; with O36. -/
namespace Sys2Proof.Machine

/-! ### Wear -/

/-- Each unit's number with its wear (R25). -/
def wearsOf (us : List (Nat × UnitRec)) : List (Nat × Word16) := us.map fun p => (p.1, p.2.wear)

theorem wearsOf_lookup (us : List (Nat × UnitRec)) (g : Nat) :
    (wearsOf us).lookup g = (unitIn us g).map (·.wear) := lookup_map_value us (fun _ u => u.wear) g

/-- A change of records that leaves wear alone. -/
@[simp] theorem wearsOf_modifyIn (us : List (Nat × UnitRec)) (g : Nat) (f : UnitRec → UnitRec)
    (hf : ∀ u, (f u).wear = u.wear) : wearsOf (modifyIn us g f) = wearsOf us := by
  rw [wearsOf, modifyIn, List.map_map]
  refine List.map_congr_left fun p _ => ?_
  dsimp only [Function.comp]
  split <;> simp [hf]

@[simp] theorem wearsOf_retire (us : List (Nat × UnitRec)) (g : Nat) (cause : Cause) :
    wearsOf (modifyIn us g (UnitRec.retire cause)) = wearsOf us := wearsOf_modifyIn us g _ fun _ => rfl

@[simp] theorem State.releaseUnit_wears (s : State) (g : Nat) :
    wearsOf (s.releaseUnit g).units = wearsOf s.units := by
  unfold State.releaseUnit; (repeat' split) <;> simp

@[simp] theorem State.discardToTail_wears (s : State) (g : Nat) :
    wearsOf (s.discardToTail g).units = wearsOf s.units := by
  unfold State.discardToTail; (repeat' split) <;> simp

@[simp] theorem State.discardToHead_wears (s : State) (g : Nat) :
    wearsOf (s.discardToHead g).units = wearsOf s.units := by
  unfold State.discardToHead; (repeat' split) <;> simp

@[simp] theorem State.takeHold_wears (s : State) (g n : Nat) (gen : Word16) :
    wearsOf (s.takeHold g n gen).1.units = wearsOf s.units := by
  unfold State.takeHold; split <;> simp

@[simp] theorem State.removeHold_wears (s : State) (i : Fin 64) (e : HoldEntry) :
    wearsOf (s.removeHold i e).units = wearsOf s.units := by
  unfold State.removeHold; dsimp only; (repeat' split) <;> simp

/-! The checkpoint unit. -/

@[simp] theorem dirtyTails_wears (gs : List Nat) (s : State) :
    wearsOf (gs.foldl State.dirtyTail s).units = wearsOf s.units := by
  induction gs generalizing s with
  | nil => rfl
  | cons g gs ih => simp [ih]

@[simp] theorem State.checkpointSucceeds_wears (s : State) : wearsOf s.checkpointSucceeds.units = wearsOf s.units := by
  unfold State.checkpointSucceeds; split <;> simp [State.sortCommitWait]

@[simp] theorem State.checkpointFails_wears (s : State) (why : CkptReason) (lost : Bool) :
    wearsOf (s.checkpointFails why lost).units = wearsOf s.units := by
  unfold State.checkpointFails; split <;> simp [State.sortCommitWait]

@[simp] theorem State.placeCheckpointOp_wears (s : State) (k : Slot) (kind : OpKind) :
    wearsOf (s.placeCheckpointOp k kind).units = wearsOf s.units := by
  unfold State.placeCheckpointOp; split <;> simp

@[simp] theorem State.startCheckpoint_wears (s : State) (o : CkptOrigin) :
    wearsOf (s.startCheckpoint o).units = wearsOf s.units := by simp [State.startCheckpoint]

/-! The relocation engine and the monitor. -/

@[simp] theorem State.startMove_wears (s : State) (n a b : Nat) (o : MoveOrigin) :
    wearsOf (s.startMove n a b o).units = wearsOf s.units := by simp [State.startMove]

@[simp] theorem State.abandonMove_wears (s : State) (n : Nat) (after : Option Nat × Word16) :
    wearsOf (s.abandonMove n after).1.units = wearsOf s.units := by
  unfold State.abandonMove; (repeat' split) <;> simp

@[simp] theorem State.commitMove_wears (s : State) (c : Fin 4) (m : Move) :
    wearsOf (s.commitMove c m).units = wearsOf s.units := by simp [State.commitMove]

@[simp] theorem State.loseCopy_wears (s : State) (c : Fin 4) : wearsOf (s.loseCopy c).units = wearsOf s.units := by
  unfold State.loseCopy; split <;> simp

@[simp] theorem State.loseAssigned_wears (s : State) (c : Fin 4) :
    wearsOf (s.loseAssigned c).units = wearsOf s.units := by
  unfold State.loseAssigned; (repeat' split) <;> simp

@[simp] theorem State.level_wears (s : State) (c : Fin 4) : wearsOf (s.level c).units = wearsOf s.units := by
  unfold State.level; (repeat' split) <;> simp

@[simp] theorem State.evaluate_wears (s : State) (c : Fin 4) : wearsOf (s.evaluate c).units = wearsOf s.units := by
  unfold State.evaluate; (repeat' split) <;> simp

@[simp] theorem State.evaluateAll_wears (s : State) (cs : List (Fin 4)) :
    wearsOf (s.evaluateAll cs).units = wearsOf s.units := by
  induction cs generalizing s with
  | nil => rfl
  | cons c cs ih => rw [State.evaluateAll_cons, ih, State.evaluate_wears]

/-! Binding and the bind-waiter list. -/

@[simp] theorem State.bindEffect_wears (s : State) (tag : Byte) (n : Nat) (hold : Bool) (g : Nat) :
    wearsOf (s.bindEffect tag n hold g).1.units = wearsOf s.units := by
  unfold State.bindEffect; dsimp only; (repeat' split) <;> simp

@[simp] theorem serve_wears (ws : List Waiter) (s : State) : wearsOf (serve ws s).1.units = wearsOf s.units := by
  induction ws generalizing s with
  | nil => rfl
  | cons w ws ih => unfold serve; dsimp only; (repeat' split) <;> simp [ih]

@[simp] theorem State.serveWaiters_wears (s : State) : wearsOf s.serveWaiters.1.units = wearsOf s.units :=
  serve_wears s.waiters s

@[simp] theorem State.afterAbandon_wears (s : State) (left : List (Fin 4)) :
    wearsOf (s.afterAbandon left).units = wearsOf s.units := by
  unfold State.afterAbandon; split <;> simp

@[simp] theorem State.serveAndReexamine_wears (s : State) : wearsOf s.serveAndReexamine.units = wearsOf s.units := by
  simp [State.serveAndReexamine]

/-! The arbiters. -/

@[simp] theorem State.issueWork_wears (s : State) (c : Fin 4) (w : Work) :
    wearsOf (s.issueWork c w).units = wearsOf s.units := by cases w <;> simp [State.issueWork]

@[simp] theorem State.arbitrate_wears (s : State) (c : Fin 4) (ended : Bool) :
    wearsOf (s.arbitrate c ended).units = wearsOf s.units := by
  unfold State.arbitrate; (repeat' split) <;> simp

@[simp] theorem arbitrateAll_wears (cs : List (Fin 4)) (p : Fin 4 → Bool) (s : State) :
    wearsOf (cs.foldl (fun t c => t.arbitrate c (p c)) s).units = wearsOf s.units := by
  induction cs generalizing s with
  | nil => rfl
  | cons c cs ih => simp [ih]

@[simp] theorem State.settle_wears (s : State) (ended : Option (Fin 4)) :
    wearsOf (s.settle ended).units = wearsOf s.units := arbitrateAll_wears _ _ s

/-! Start-up, which changes the tables only until it has ended. -/

theorem State.readEnds_of_ended {s : State} (h : s.startup.stage = .ended) (r : SlotRead) : s.readEnds r = s := by
  simp [State.readEnds, h]

theorem State.testProbeEnd_of_ended {s : State} (h : s.startup.stage = .ended) : s.testProbeEnd = s := by
  simp [State.testProbeEnd, h]

theorem State.probeAbsent_units {s : State} (h : s.startup.stage = .ended) (c : Fin 4) :
    (s.probeAbsent c).units = s.units := by
  rw [State.probeAbsent, State.testProbeEnd_of_ended (by simpa using h)]; simp

theorem State.probeIdentifies_units {s : State} (h : s.startup.stage = .ended) (c : Fin 4) (n : Word16) :
    (s.probeIdentifies c n).units = s.units := by
  unfold State.probeIdentifies
  split
  · rw [State.testProbeEnd_of_ended (by simpa using h)]; simp
  · exact State.probeAbsent_units h c

/-! Restarts and channel faults. -/

@[simp] theorem State.restartFails_units (s : State) (c : Fin 4) (cause : FaultCause) (why : RestartReason)
    (n : Word16) : (s.restartFails c cause why n).units = s.units := by
  unfold State.restartFails; dsimp only; split <;> simp

@[simp] theorem State.restartSucceeds_wears (s : State) (c : Fin 4) :
    wearsOf (s.restartSucceeds c).units = wearsOf s.units := by
  unfold State.restartSucceeds; dsimp only; split <;> simp

theorem State.loseInFlight_wears {s : State} (h : s.startup.stage = .ended) (c : Fin 4) (op : Op) :
    wearsOf (s.loseInFlight c op).units = wearsOf s.units := by
  unfold State.loseInFlight; split <;> simp [State.readEnds_of_ended h]

theorem State.loseInFlight_startup {s : State} (h : s.startup.stage = .ended) (c : Fin 4) (op : Op) :
    (s.loseInFlight c op).startup = s.startup := by
  unfold State.loseInFlight; split <;> simp [State.readEnds_of_ended h]

theorem State.losePending_wears {s : State} (h : s.startup.stage = .ended) (w : Option ImageWork) :
    wearsOf (s.losePending w).units = wearsOf s.units := by
  unfold State.losePending; (repeat' split) <;> simp [State.readEnds_of_ended h]

theorem State.faultChannel_wears {s : State} (h : s.startup.stage = .ended) (c : Fin 4) (cause : FaultCause)
    (op : Op) : wearsOf (s.faultChannel c cause op).units = wearsOf s.units := by
  let s2 := (s.setChannel c { s.channels[c] with
    state := .faulted, fault := some cause, inFlight := none, pendingImage := none }).post .channelFault
      (channelFaultNotice c cause op.kind s.tick)
  have h2 : s2.startup.stage = .ended := by simpa [s2] using h
  have h3 : (s2.loseInFlight c op).startup.stage = .ended := by rw [State.loseInFlight_startup h2]; exact h2
  calc wearsOf (s.faultChannel c cause op).units
      = wearsOf ((s2.loseInFlight c op).losePending s.channels[c].pendingImage).units := by
        simp [State.faultChannel, s2]
    _ = wearsOf s2.units := by rw [State.losePending_wears h3, State.loseInFlight_wears h2]
    _ = wearsOf s.units := by simp [s2]

theorem State.loseOperation_wears {s : State} (h : s.startup.stage = .ended) (c : Fin 4) (op : Op)
    (cause : FaultCause) (why : RestartReason) :
    wearsOf (s.loseOperation c op cause why).units = wearsOf s.units := by
  unfold State.loseOperation
  split <;> simp [State.probeAbsent_units h, State.faultChannel_wears h]

/-! Replies. Of all replies only the DONE to the erase of a usable unit touches wear (R38). -/

@[simp] theorem State.unitEraseDone_wears (s : State) (c : Fin 4) (i : Nat) :
    wearsOf (s.unitEraseDone c i).units = wearsOf (s.eraseOutcome (globalOf c i)).units := by
  simp [State.unitEraseDone, State.afterErase]

@[simp] theorem State.unitEraseFails_wears (s : State) (c : Fin 4) (i : Nat) :
    wearsOf (s.unitEraseFails c i).units = wearsOf s.units := by
  simp [State.unitEraseFails, State.afterErase]

@[simp] theorem State.copySucceeds_wears (s : State) (c : Fin 4) :
    wearsOf (s.copySucceeds c).units = wearsOf s.units := by
  unfold State.copySucceeds State.afterMove; (repeat' split) <;> simp

@[simp] theorem State.copyFailsProgram_wears (s : State) (c : Fin 4) :
    wearsOf (s.copyFailsProgram c).units = wearsOf s.units := by
  unfold State.copyFailsProgram State.afterMove; split <;> simp

@[simp] theorem State.copyFailsRead_wears (s : State) (c : Fin 4) :
    wearsOf (s.copyFailsRead c).units = wearsOf s.units := by
  unfold State.copyFailsRead State.afterMove; split <;> simp

@[simp] theorem State.slotErased_wears (s : State) (c : Fin 4) : wearsOf (s.slotErased c).units = wearsOf s.units := by
  unfold State.slotErased; split <;> simp

@[simp] theorem State.restartIdentifies_wears (s : State) (c : Fin 4) (n : Word16) :
    wearsOf (s.restartIdentifies c n).units = wearsOf s.units := by
  unfold State.restartIdentifies; split <;> simp

/-- The reply is the DONE to an erase that the unit manager has in flight. -/
def IsEraseDone (op : Op) (r : Reply) : Prop := op.owner = .unitManager ∧ (∃ j, op.kind = .erase j) ∧ r = .done

/-- R38: a reply that its operation accepts leaves wear alone unless it is the DONE to a usable unit's erase. -/
theorem State.handReply_wears {s : State} (h : s.startup.stage = .ended) (c : Fin 4) (op : Op) (r : Reply)
    (hnot : ¬ IsEraseDone op r) : wearsOf (s.handReply c op r).units = wearsOf s.units := by
  unfold State.handReply
  split
  · next i howner hkind => exact absurd ⟨howner, ⟨i, hkind⟩, rfl⟩ hnot
  all_goals
    simp [State.slotEraseFails, State.imageWritten, State.imageWriteFails, State.readReplies,
      State.readEnds_of_ended h, State.formatSlotErased, State.formatSlotEraseFails, State.probeResets,
      State.probeIdentifies_units h, State.restartResets]

theorem State.replyArrives_wears {s : State} (h : s.startup.stage = .ended) (c : Fin 4) (r : Reply)
    (hnot : ∀ op, s.channels[c].inFlight = some op → ¬ IsEraseDone op r) :
    wearsOf (s.replyArrives c r).units = wearsOf s.units := by
  unfold State.replyArrives
  split
  · simp
  · next op hop =>
    split
    · rw [State.handReply_wears (by simpa using h) c op r (hnot op hop)]; simp
    · exact State.loseOperation_wears h c op _ _

/-! ### The commands, by kind -/

/-- R123: a reply that the operation in flight accepts is handed to its owner, whenever the operation started. -/
theorem State.replyArrives_of_flying {s : State} {c : Fin 4} {o : Owner} {k : OpKind} {r : Reply}
    (hfly : s.flying c = some (o, k)) (hacc : k.accepts r = true) :
    s.replyArrives c r = (s.endOp c).handReply c ⟨k, o, 0⟩ r := by
  rw [State.flying, Option.map_eq_some_iff] at hfly
  obtain ⟨⟨kind, owner, start⟩, hop, he⟩ := hfly
  obtain ⟨rfl, rfl⟩ := Prod.mk.inj he
  simp only [State.replyArrives, hop, hacc, if_true]
  rfl

/-- R123 to R125, 6.2: a command that brings a reply is the arrival of that reply, whichever row it is (log 2). -/
theorem exec_of_replyOf {i : Instr} {c : Fin 4} {r : Reply} (h : replyOf i = some (c, r)) (s : State) :
    exec i s = .next (s.whenRunning fun s => s.replyArrives c r) := by
  have key : ∀ f : State → State, (∀ s, f s = s.replyArrives c r) →
      (Host.Outcome.next (s.whenRunning f) : Host.Outcome State Fault Refusal) =
        .next (s.whenRunning fun s => s.replyArrives c r) := fun f hf => by rw [funext hf]
  cases i with
  | eraseDone | eraseFail | copyDone | copyFailProgram | copyFailRead | slotEraseDone | slotEraseFail | writeImageDone
  | writeImageFail | readImageDone | readImageFail | probeResetDone | probeIdent | restartResetDone | restartIdent
  | formatSlotEraseDone | formatSlotEraseFail =>
    cases h
    refine key _ fun s => ?_
    split
    · next hfly => refine .trans ?_ (State.replyArrives_of_flying hfly ?_).symm <;> rfl
    · rfl
  | unacceptedReply c' r' =>
    cases h
    refine key _ fun s => ?_
    split
    · next op hop =>
      split
      · rfl
      · next hacc => simp only [State.replyArrives, hop, hacc]; rfl
    · rfl
  | strayReply c' r' =>
    cases h
    refine key _ fun s => ?_
    split
    · next hop => simp only [State.replyArrives, hop]
    · rfl
  | hardwareReset | resetNRelease | tick | holdExpiry | operationDeadline | request | fetch | status | linkReset
  | transactionDiscarded | lookup | bind | unbind | move | release | renew | retire | queryUnit | checkpoint
  | restartChannel | enterService | leaveService | format | getParameter | setParameter | readCounter | clearCounters
  | formatUnitReset => cases h

/-- The effect of a request that has passed the common checks (R157, R158). -/
def effectOf : ReqCode → Frame → State → State
  | .lookup => lookupEffect
  | .bind => bindRequest
  | .unbind => unbindEffect
  | .move => moveEffect
  | .release => releaseEffect
  | .renew => renewEffect
  | .retire => retireEffect
  | .queryUnit => queryEffect
  | .checkpoint => checkpointEffect
  | .restartChannel => restartEffect
  | .enterService => enterServiceEffect
  | .leaveService => leaveServiceEffect
  | .format => formatEffect
  | .getParameter => getParameterEffect
  | .setParameter => setParameterEffect
  | .readCounter => readCounterEffect
  | .clearCounters => clearCountersEffect

theorem exec_requestCommand (k : ReqCode) (s : State) :
    exec (requestCommand k) s = .next (s.whenRunning fun s => s.takeRequest k (effectOf k)) := by
  cases k <;> rfl

/-- R157: what taking a request can do. -/
theorem State.takeRequest_cases (s : State) (k : ReqCode) (effect : Frame → State → State) :
    s.takeRequest k effect = s ∨
    ∃ f rest, s.link.intake = f :: rest ∧
      ((∃ st, s.takeRequest k effect = (s.taken rest).completePlain f st) ∨
        s.takeRequest k effect = effect f (s.taken rest)) := by
  unfold State.takeRequest
  split
  · exact .inl rfl
  · next f rest hin =>
    dsimp only
    split
    · exact .inr ⟨f, rest, hin, .inl ⟨_, rfl⟩⟩
    · split
      · split
        · next st _ => exact .inr ⟨f, rest, hin, .inl ⟨st, rfl⟩⟩
        · exact .inr ⟨f, rest, hin, .inr rfl⟩
      · exact .inl rfl

/-! ### Requests keep wear -/

@[simp] theorem State.answerRetire_units (s : State) (f : Frame) : (s.answerRetire f).units = s.units := by
  unfold State.answerRetire; split <;> simp

@[simp] theorem State.reexamineAndAnswer_units (s : State) (f : Frame) : (s.reexamineAndAnswer f).units = s.units := by
  simp [State.reexamineAndAnswer]

@[simp] theorem State.retireTarget_wears (s : State) (f : Frame) (g : Nat) :
    wearsOf (s.retireTarget f g).units = wearsOf s.units := by
  unfold State.retireTarget State.markRetirePending
  (repeat' split) <;> simp

theorem effectOf_wears (k : ReqCode) (f : Frame) (s : State) : wearsOf (effectOf k f s).units = wearsOf s.units := by
  cases k with
  | lookup =>
    simp only [effectOf, lookupEffect, State.lookupHold, State.answerLookup]; (repeat' split) <;> simp
  | bind => simp only [effectOf, bindRequest]; (repeat' split) <;> simp
  | unbind => simp only [effectOf, unbindEffect, State.unbindLogical]; split <;> simp
  | move => simp only [effectOf, moveEffect]; (repeat' split) <;> simp
  | release => simp only [effectOf, releaseEffect, State.releaseHold]; split <;> simp
  | renew => simp only [effectOf, renewEffect]; split <;> simp
  | retire =>
    simp only [effectOf, retireEffect, State.retireByState]
    (repeat' split) <;> simp [State.markRetirePending]
  | queryUnit => simp only [effectOf, queryEffect]; split <;> simp
  | checkpoint => simp only [effectOf, checkpointEffect]; (repeat' split) <;> simp
  | restartChannel => simp only [effectOf, restartEffect, State.startRestart]; (repeat' split) <;> simp
  | enterService => simp only [effectOf, enterServiceEffect]; (repeat' split) <;> simp
  | leaveService => simp [effectOf, leaveServiceEffect]
  | format => simp only [effectOf, formatEffect]; split <;> simp
  | getParameter => simp only [effectOf, getParameterEffect]; split <;> simp
  | setParameter => simp only [effectOf, setParameterEffect]; (repeat' split) <;> simp
  | readCounter => simp only [effectOf, readCounterEffect]; split <;> simp
  | clearCounters => simp [effectOf, clearCountersEffect]

theorem State.takeRequest_wears (s : State) (k : ReqCode) :
    wearsOf (s.takeRequest k (effectOf k)).units = wearsOf s.units := by
  obtain h | ⟨f, rest, -, ⟨st, h⟩ | h⟩ := s.takeRequest_cases k (effectOf k)
  · rw [h]
  · simp [h, State.taken]
  · rw [h, effectOf_wears]; rfl

/-! ### The other commands keep wear -/

theorem State.whenRunning_wears (s : State) (f : State → State) (h : wearsOf (f s).units = wearsOf s.units) :
    wearsOf (s.whenRunning f).units = wearsOf s.units := by
  unfold State.whenRunning
  split
  · rfl
  · exact h

@[simp] theorem State.shiftOut_units (s : State) (bs : List Byte) : (s.shiftOut bs).units = s.units := rfl

theorem issueResets_units (cs : List (Fin 4)) (s : State) :
    (cs.foldl (fun t c => t.issueOp c .reset .stateControl) s).units = s.units := by
  induction cs generalizing s with
  | nil => rfl
  | cons c cs ih => simp [ih]

theorem State.expireHold_wears (s : State) (i : Fin 64) (e : HoldEntry) :
    wearsOf (s.expireHold i e).units = wearsOf s.units := by simp [State.expireHold]

theorem releaseAndTests_wears (gs : List Nat) (s : State) :
    wearsOf (gs.foldl State.releaseAndTest s).units = wearsOf s.units := by
  induction gs generalizing s with
  | nil => rfl
  | cons g gs ih => simp [ih, State.releaseAndTest]

theorem State.linkReset_wears (s : State) : wearsOf s.linkReset.units = wearsOf s.units := by
  simp only [State.linkReset, State.settle_wears, State.count_frame, State.removeAllHolds, releaseAndTests_wears]
  simp [wearsOf, State.orphanAll]

/-- R38: the outcome of a DONE raises the wear of the erased unit, saturating, and of no other. -/
theorem State.eraseOutcome_wear (s : State) (g x : Nat) :
    ((s.eraseOutcome g).unit? x).map (·.wear) = (s.unit? x).map fun u => if x = g then wornBy u.wear else u.wear := by
  let worn := fun u : UnitRec => { u with wear := wornBy u.wear }
  have hwears : s.unit? g ≠ none → wearsOf (s.eraseOutcome g).units = wearsOf (modifyIn s.units g worn) := by
    intro hg
    unfold State.eraseOutcome
    split
    · contradiction
    · dsimp only; (repeat' split) <;> simp [worn]
  cases hg : s.unit? g with
  | none =>
    simp only [State.eraseOutcome, hg]
    by_cases hx : x = g
    · simp [hx, hg]
    · simp [hx]
  | some u =>
    simp only [State.unit?] at hg ⊢
    rw [← wearsOf_lookup, hwears (by simp [State.unit?, hg]), wearsOf_lookup, unitIn_modifyIn]
    by_cases hx : x = g
    · subst hx; simp [hg, worn]
    · simp [hx]

/-- R46: a DONE reply to the erase of the usable unit `g` raises the wear of that unit alone. -/
theorem State.replyArrives_eraseDone_wear {s : State} {c : Fin 4} {op : Op} {j : Nat}
    (hop : s.channels[c].inFlight = some op) (howner : op.owner = .unitManager) (hkind : op.kind = .erase j) (x : Nat) :
    ((s.replyArrives c .done).unit? x).map (·.wear) =
      (s.unit? x).map fun u => if x = globalOf c j then wornBy u.wear else u.wear := by
  have hfly : s.flying c = some (.unitManager, .erase j) :=
    Option.map_eq_some_iff.2 ⟨op, hop, by rw [howner, hkind]⟩
  have hunits : wearsOf (s.replyArrives c .done).units = wearsOf ((s.endOp c).eraseOutcome (globalOf c j)).units := by
    rw [State.replyArrives_of_flying hfly rfl]
    exact State.unitEraseDone_wears _ c j
  rw [State.unit?, ← wearsOf_lookup, hunits, wearsOf_lookup]
  exact (State.eraseOutcome_wear _ _ x).trans (by rw [State.unit?_of_units (s := s) (by simp)])

/-- The command is the DONE reply to an erase that the unit manager has in flight. -/
def BringsEraseDone (i : Instr) (s : State) (c : Fin 4) (op : Op) (j : Nat) : Prop :=
  replyOf i = some (c, .done) ∧ s.channels[c].inFlight = some op ∧ op.owner = .unitManager ∧ op.kind = .erase j

/-- R46: once start-up has ended, a command other than a hardware reset, the unit reset of a FORMAT and the DONE reply
to a usable unit's erase leaves every unit's wear alone. -/
theorem exec_wears {i : Instr} {s t : State} (hexec : exec i s = .next t) (h : s.startup.stage = .ended)
    (hreset : i ≠ .hardwareReset) (hformat : i ≠ .formatUnitReset)
    (hdone : ∀ c op j, ¬ BringsEraseDone i s c op j) : wearsOf t.units = wearsOf s.units := by
  have request (k : ReqCode) (hk : exec (requestCommand k) s = .next t) : wearsOf t.units = wearsOf s.units := by
    rw [exec_requestCommand] at hk
    cases hk
    exact s.whenRunning_wears _ (s.takeRequest_wears k)
  cases hreply : replyOf i with
  | some cr =>
    obtain ⟨c, r⟩ := cr
    rw [exec_of_replyOf hreply] at hexec
    cases hexec
    refine s.whenRunning_wears _ (State.replyArrives_wears h c r fun op hop ⟨howner, ⟨j, hkind⟩, hr⟩ => ?_)
    subst hr
    exact hdone c op j ⟨hreply, hop, howner, hkind⟩
  | none =>
    cases i with
    | hardwareReset => contradiction
    | formatUnitReset => contradiction
    | lookup => exact request .lookup hexec
    | bind => exact request .bind hexec
    | unbind => exact request .unbind hexec
    | move => exact request .move hexec
    | release => exact request .release hexec
    | renew => exact request .renew hexec
    | retire => exact request .retire hexec
    | queryUnit => exact request .queryUnit hexec
    | checkpoint => exact request .checkpoint hexec
    | restartChannel => exact request .restartChannel hexec
    | enterService => exact request .enterService hexec
    | leaveService => exact request .leaveService hexec
    | format => exact request .format hexec
    | getParameter => exact request .getParameter hexec
    | setParameter => exact request .setParameter hexec
    | readCounter => exact request .readCounter hexec
    | clearCounters => exact request .clearCounters hexec
    | resetNRelease =>
      cases hexec
      split
      · rw [issueResets_units]; rfl
      · rfl
    | tick => cases hexec; exact s.whenRunning_wears _ rfl
    | holdExpiry slot =>
      cases hexec
      refine s.whenRunning_wears _ ?_
      split
      · split
        · exact s.expireHold_wears _ _
        · rfl
      · rfl
    | operationDeadline c =>
      cases hexec
      refine s.whenRunning_wears _ ?_
      split
      · split
        · exact State.loseOperation_wears h c _ _ _
        · rfl
      · rfl
    | request raw extra =>
      cases hexec
      refine s.whenRunning_wears _ ?_
      unfold State.takeFrame
      split <;> rfl
    | fetch extra => cases hexec; exact s.whenRunning_wears _ rfl
    | status extra => cases hexec; rfl
    | linkReset extra => cases hexec; exact s.whenRunning_wears _ s.linkReset_wears
    | transactionDiscarded d =>
      rw [exec, execTransactionDiscarded] at hexec
      split at hexec
      · cases hexec; exact s.whenRunning_wears _ (by simp)
      · cases hexec
    | eraseDone | eraseFail | copyDone | copyFailProgram | copyFailRead | slotEraseDone | slotEraseFail
    | writeImageDone | writeImageFail | readImageDone | readImageFail | probeResetDone | probeIdent | restartResetDone
    | restartIdent | formatSlotEraseDone | formatSlotEraseFail | unacceptedReply | strayReply => cases hreply

/-- Settles O36: a command keeps the wear of every unit, or is the DONE reply to an erase in flight, which raises the
wear of the erased unit alone. -/
theorem wearOnlyRises : Obligations.WearOnlyRises := by
  intro i s t g u v _ hexec hended hformat hu hv
  by_cases hreset : i = .hardwareReset
  · subst hreset; cases hexec; simp [State.unit?, unitIn, State.reset] at hv
  by_cases hdone : ∃ c op j, BringsEraseDone i s c op j
  · obtain ⟨c, op, j, hbrings⟩ := hdone
    obtain ⟨hreply, hop, howner, hkind⟩ := hbrings
    rw [exec_of_replyOf hreply] at hexec
    cases hexec
    rw [State.whenRunning] at hv
    split at hv
    · exact .inl (by rw [hu] at hv; cases hv; rfl)
    · have hw := State.replyArrives_eraseDone_wear hop howner hkind g
      rw [hu, hv] at hw
      simp only [Option.map_some, Option.some.injEq] at hw
      by_cases hg : g = globalOf c j
      · exact .inr ⟨by rw [hw, if_pos hg]; rfl, c, op, j, hreply, hop, howner, hkind, hg.symm⟩
      · exact .inl (by rw [hw, if_neg hg])
  · simp only [not_exists] at hdone
    have hw := congrArg (List.lookup g) (exec_wears hexec hended hreset hformat hdone)
    simp only [wearsOf_lookup] at hw
    rw [State.unit?] at hu hv
    simp only [hu, hv, Option.map_some, Option.some.injEq] at hw
    exact .inl hw

end Sys2Proof.Machine

/-! SUPPORT. The replies to a usable unit's erase (R38, R39, R41); with O35. -/
namespace Sys2Proof.Machine

/-! ### The replies to a usable unit's erase -/

/-- R38: the unit `g` with its wear risen by one, saturating, and the completion counted. -/
def State.erased (s : State) (g : Nat) : State :=
  (s.modifyUnit g fun u => { u with wear := wornBy u.wear }).count .erasesCompleted

theorem State.unit?_erased (s : State) (g x : Nat) : (s.erased g).unit? x =
    if x = g then (s.unit? g).map fun u => { u with wear := wornBy u.wear } else s.unit? x :=
  State.unit?_modifyIn (by simp [State.erased]) x

theorem State.erased_counter (s : State) (g : Nat) (k : Counter) :
    (s.erased g).counter k = if k = .erasesCompleted then s.counter k + 1 else s.counter k := by
  rw [State.erased, State.counter_count]; rfl

/-- R38: the three outcomes of a DONE, in order. -/
theorem State.eraseOutcome_of_some {s : State} {g : Nat} {u : UnitRec} (hu : s.unit? g = some u) :
    s.eraseOutcome g =
      if u.retirePending then (s.erased g).retireUnit g .host
      else if s.params.eMax.toNat ≤ (wornBy u.wear).toNat then (s.erased g).retireUnit g .worn
      else (s.erased g).setUnitState g .free := by
  simp only [State.eraseOutcome, hu]; rfl

theorem State.unit?_eraseOutcome_ne (s : State) {g x : Nat} (hx : x ≠ g) :
    (s.eraseOutcome g).unit? x = s.unit? x := by
  cases hu : s.unit? g with
  | none => simp only [State.eraseOutcome, hu]
  | some u =>
    rw [State.eraseOutcome_of_some hu]
    (repeat' split) <;> simp [State.unit?_retireUnit, State.unit?_setUnitState, State.unit?_erased, hx]

/-- R38, R44: a unit that a DONE retires, with its notices and counts. -/
theorem State.erased_retired {s : State} {g : Nat} {u : UnitRec} (cause : Cause) (hu : s.unit? g = some u) :
    ((s.erased g).retireUnit g cause).unit? g = some ⟨.retired cause, wornBy u.wear, u.holds, false⟩ ∧
    ((s.erased g).retireUnit g cause).link =
      s.link.retirement g cause ((s.erased g).retireUnit g cause).spareCount s.params.sMin ∧
    Counted s ((s.erased g).retireUnit g cause) (fun | .erasesCompleted => 1 | .retirements => 1 | _ => 0) := by
  refine ⟨?_, ?_, fun k hk => ?_⟩
  · simp [State.unit?_retireUnit, State.unit?_erased, hu, UnitRec.retire]
  · rw [State.retireUnit_link]; simp [State.erased]
  · rw [State.retireUnit_counter _ _ _ hk, State.erased_counter]
    cases k <;> simp

theorem State.erased_freed {s : State} {g : Nat} {u : UnitRec} (hu : s.unit? g = some u) :
    ((s.erased g).setUnitState g .free).unit? g = some ⟨.free, wornBy u.wear, u.holds, u.retirePending⟩ ∧
    ((s.erased g).setUnitState g .free).link = s.link ∧
    ((s.erased g).setUnitState g .free).counters = s.counters.set 6 (s.counters[(6 : Fin 19)] + 1) :=
  ⟨by simp [State.unit?_setUnitState, State.unit?_erased, hu], by simp [State.erased], rfl⟩

/-- R39: a FAIL(ERASE) retires the unit with its wear unchanged, counts and reports. -/
theorem State.eraseFailure_retired {s : State} {g : Nat} {u : UnitRec} (hu : s.unit? g = some u) :
    ((s.count .eraseFailures).retireUnit g .eraseFail).unit? g =
      some ⟨.retired .eraseFail, u.wear, u.holds, false⟩ ∧
    ((s.count .eraseFailures).retireUnit g .eraseFail).link = s.link.retirement g .eraseFail
      ((s.count .eraseFailures).retireUnit g .eraseFail).spareCount s.params.sMin ∧
    Counted s ((s.count .eraseFailures).retireUnit g .eraseFail)
      (fun | .eraseFailures => 1 | .retirements => 1 | _ => 0) := by
  refine ⟨?_, ?_, fun k hk => ?_⟩
  · rw [State.unit?_retireUnit, if_pos rfl, State.unit?_of_units (s := s) (by simp), hu]; rfl
  · rw [State.retireUnit_link]; simp
  · rw [State.retireUnit_counter _ _ _ hk, State.counter_count]
    cases k <;> simp

/-- R123: with a usable unit's erase in flight, a reply the erase accepts is settled by the unit manager. -/
theorem exec_of_unitErase {i : Instr} {r : Reply} {s : State} {c : Fin 4} {op : Op} {j : Nat}
    (hreply : replyOf i = some (c, r)) (hrun : s.resetLow = false) (hop : s.channels[c].inFlight = some op)
    (howner : op.owner = .unitManager) (hkind : op.kind = .erase j) (hacc : (OpKind.erase j).accepts r = true) :
    exec i s = .next ((s.endOp c).handReply c ⟨.erase j, .unitManager, 0⟩ r) := by
  have hfly : s.flying c = some (.unitManager, .erase j) :=
    Option.map_eq_some_iff.2 ⟨op, hop, by rw [howner, hkind]⟩
  rw [exec_of_replyOf hreply, State.whenRunning, hrun, State.replyArrives_of_flying hfly hacc]
  rfl

theorem State.handReply_unitErase_done (s : State) (c : Fin 4) (j : Nat) (start : Word32) :
    s.handReply c ⟨.erase j, .unitManager, start⟩ .done =
      ((s.eraseOutcome (globalOf c j)).serveAndReexamine.evaluate c).settle (some c) := rfl

theorem State.handReply_unitErase_fail (s : State) (c : Fin 4) (j : Nat) (start : Word32) :
    s.handReply c ⟨.erase j, .unitManager, start⟩ .failErase =
      ((((s.count .eraseFailures).retireUnit (globalOf c j) .eraseFail).serveAndReexamine).evaluate c).settle
        (some c) := rfl

/-- Settles O35: the reply is handed to the unit manager, and the outcome of the erase is read off, case by case. -/
theorem eraseRepliesSettleTheUnit : Obligations.EraseRepliesSettleTheUnit := by
  intro s c op j g u hrun _ hop howner hkind hg hu wear frame
  subst hg
  have hu' : (s.endOp c).unit? (globalOf c j) = some u := (State.unit?_of_units (by simp) _).trans hu
  constructor
  · refine ⟨(s.endOp c).eraseOutcome (globalOf c j), ?_, ?_, ?_, ?_, ?_⟩
    · rw [exec_of_unitErase (i := .eraseDone c) (r := .done) rfl hrun hop howner hkind rfl,
        State.handReply_unitErase_done]
    · refine ⟨by simp [State.SameControl], by simp [State.endOp, State.setChannel], fun x hx => ?_, ?_⟩
      · exact (State.unit?_eraseOutcome_ne _ hx).trans (State.unit?_of_units (by simp) x)
      · simp
    · intro hmark
      rw [State.eraseOutcome_of_some hu', if_pos hmark]
      exact State.erased_retired .host hu'
    · intro hmark hworn
      have hworn : (s.endOp c).params.eMax.toNat ≤ (wornBy u.wear).toNat := hworn
      rw [State.eraseOutcome_of_some hu', if_neg (by simp [hmark]), if_pos hworn]
      exact State.erased_retired .worn hu'
    · intro hmark hfresh
      have hfresh : (wornBy u.wear).toNat < (s.endOp c).params.eMax.toNat := hfresh
      rw [State.eraseOutcome_of_some hu', if_neg (by simp [hmark]), if_neg (Nat.not_le.2 hfresh)]
      exact hmark ▸ State.erased_freed hu'
  · refine ⟨((s.endOp c).count .eraseFailures).retireUnit (globalOf c j) .eraseFail, ?_, ?_, ?_⟩
    · rw [exec_of_unitErase (i := .eraseFail c) (r := .failErase) rfl hrun hop howner hkind rfl,
        State.handReply_unitErase_fail]
    · refine ⟨by simp [State.SameControl], by simp [State.endOp, State.setChannel], fun x hx => ?_, by simp⟩
      rw [State.unit?_retireUnit, if_neg hx, State.unit?_of_units (s := s) (by simp)]
    · exact State.eraseFailure_retired hu'

end Sys2Proof.Machine

/-! SUPPORT. RETIRE (R47, R48, R19): what is placed on the link, the tags that wait, the re-examination and the
answer; with O34. -/
namespace Sys2Proof.Machine

/-! ### Requests that pass the common checks -/

theorem decodeReqCode_encode (k : ReqCode) : decodeReqCode (encodeReqCode k) = some k := by cases k <;> rfl

/-- R158: the common checks do not look at the host link. -/
theorem State.commonCheck_taken (s : State) (rest : List Frame) (k : ReqCode) (f : Frame) :
    (s.taken rest).commonCheck k f = s.commonCheck k f := by cases k <;> rfl

/-- R157: a request that passes the common checks has its effect on the state without its frame. -/
theorem exec_of_passes {s : State} {k : ReqCode} {f : Frame} {rest : List Frame} (h : s.Passes k f rest) :
    exec (requestCommand k) s = .next (effectOf k f (s.taken rest)) := by
  have hcheck : (s.setLink { s.link with intake := rest }).commonCheck k f = none :=
    (s.commonCheck_taken rest k f).trans h.passes
  rw [exec_requestCommand, State.whenRunning, h.running]
  simp only [State.takeRequest, h.head, h.code, decodeReqCode_encode, if_true, hcheck]
  rfl

theorem exec_retire {s : State} {f : Frame} {rest : List Frame} {u : UnitRec} (h : s.Passes .retire f rest)
    (hu : s.unit? f.number = some u) : exec .retire s = .next ((s.taken rest).retireByState f f.number u) := by
  have hu' : (s.taken rest).unit? f.number = some u := hu
  refine (exec_of_passes h).trans ?_
  simp only [effectOf, retireEffect, hu']

/-! ### What is placed on the link -/

/-- The link has kept its intake list and its records in order, and the tags `gone` are open no more (R156, R159). -/
structure Link.Extends (l l' : Link) (gone : List Byte) : Prop where
  intake : l'.intake = l.intake
  queue : l.queue <+: l'.queue
  tags : l'.openTags = l.openTags.diff gone

theorem Link.Extends.refl (l : Link) : l.Extends l [] := ⟨rfl, List.prefix_refl _, rfl⟩

theorem Link.Extends.trans {l l' l'' : Link} {a b : List Byte} (h : l.Extends l' a) (h' : l'.Extends l'' b) :
    l.Extends l'' (a ++ b) :=
  ⟨h'.intake.trans h.intake, h.queue.trans h'.queue, by rw [h'.tags, h.tags, List.diff_append]⟩

theorem Link.post_extends (l : Link) (k : NoticeKind) (r : Record) : l.Extends (l.post k r) [] := by
  unfold Link.post
  split
  · exact ⟨rfl, List.prefix_refl _, rfl⟩
  · split
    · exact ⟨rfl, List.prefix_append _ _, rfl⟩
    · exact ⟨rfl, List.prefix_refl _, rfl⟩

theorem Link.retirement_extends (l : Link) (g : Nat) (cause : Cause) (spare : Int) (sMin : Word16) :
    l.Extends (l.retirement g cause spare sMin) [] := by
  unfold Link.retirement
  dsimp only
  split
  · exact (l.post_extends _ _).trans (Link.post_extends _ _ _)
  · exact l.post_extends _ _

/-- R162: where a notice goes does not depend on the intake list. -/
theorem Link.post_withIntake (l : Link) (rest : List Frame) (k : NoticeKind) (r : Record) :
    ({ l with intake := rest } : Link).post k r = { l.post k r with intake := rest } := by
  unfold Link.post Link.used
  dsimp only
  split
  · rfl
  · split <;> rfl

theorem Link.retirement_withIntake (l : Link) (rest : List Frame) (g : Nat) (cause : Cause) (spare : Int)
    (sMin : Word16) : ({ l with intake := rest } : Link).retirement g cause spare sMin =
      { l.retirement g cause spare sMin with intake := rest } := by
  unfold Link.retirement
  dsimp only
  split <;> simp only [Link.post_withIntake]

theorem State.retireUnit_extends (s : State) (g : Nat) (cause : Cause) :
    s.link.Extends (s.retireUnit g cause).link [] := by
  rw [State.retireUnit_link]; exact Link.retirement_extends _ _ _ _ _

theorem State.complete_of_open {s : State} {tag : Byte} (h : tag ∈ s.link.openTags) (r : Record) :
    s.complete tag r = s.setLink (s.link.complete tag r) := if_pos h

theorem State.complete_extends (s : State) (tag : Byte) (r : Record) :
    s.link.Extends (s.complete tag r).link [tag] := by
  unfold State.complete
  split
  · exact ⟨rfl, List.prefix_append _ _, by simp [Link.complete]⟩
  · next h => exact ⟨rfl, List.prefix_refl _, by simp [List.erase_of_not_mem h]⟩

/-- R89, R90: the report of a move's outcome frees no tag but its own. -/
theorem State.reportMove_extends (s : State) (c : Fin 4) (m : Move) (st : Status) (why : MoveReason)
    (after : Option Nat × Word16) : s.link.Extends (s.reportMove c m st why after).link m.origin.tag := by
  unfold State.reportMove
  cases ho : m.origin with
  | host t => exact s.complete_extends t _
  | orphaned => exact .refl _
  | leveling =>
    dsimp only
    split
    · exact .refl _
    · rw [State.post_link]; exact Link.post_extends _ _ _
  | evacuation =>
    dsimp only
    split
    · exact .refl _
    · rw [State.post_link]; exact Link.post_extends _ _ _

theorem State.endMove_extends (s : State) (c : Fin 4) (m : Move) (st : Status) (why : MoveReason)
    (after : Option Nat × Word16) : s.link.Extends (s.endMove c m st why after).link m.origin.tag := by
  simpa [State.endMove] using
    ((s.setMove c none).count (outcomeCounter st)).reportMove_extends c m st why after

theorem State.reportMove_counter (s : State) (c : Fin 4) (m : Move) (st : Status) (why : MoveReason)
    (after : Option Nat × Word16) {k : Counter} (hk : k ≠ .noticesCoalesced) :
    (s.reportMove c m st why after).counter k = s.counter k := by
  unfold State.reportMove
  cases m.origin with
  | host t => exact State.counter_of_counters (by simp) k
  | orphaned => rfl
  | leveling =>
    dsimp only
    split
    · rfl
    · exact s.post_counter _ _ hk
  | evacuation =>
    dsimp only
    split
    · rfl
    · exact s.post_counter _ _ hk

/-- R156, R159: the record that completes an open request is the last one placed. -/
theorem placedLast_complete {s t : State} {gone : List Byte} {tag : Byte} (hext : s.link.Extends t.link gone)
    (hopen : tag ∈ s.link.openTags) (hnot : tag ∉ gone) (hnd : s.link.openTags.Nodup) (r : Record) :
    PlacedLast s (t.complete tag r) tag r := by
  have hopen' : tag ∈ t.link.openTags := hext.tags ▸ List.mem_diff_of_mem hopen hnot
  have hnd' : t.link.openTags.Nodup := hext.tags ▸ hnd.diff
  rw [State.complete_of_open hopen']
  exact ⟨hext.queue.trans (List.prefix_append _ _), by simp [Link.complete], hnd'.not_mem_erase⟩

/-! ### The tags of the requests that wait -/

theorem TagInv.held_nodup {s : State} (h : TagInv s) : s.heldTags.Nodup := h.held.nodup_iff.2 h.distinct

/-- R156: the tag of the request at the head of the intake list is no parked BIND's and no move's. -/
theorem TagInv.head_elsewhere {s : State} {f : Frame} {rest : List Frame} (h : TagInv s)
    (hin : s.link.intake = f :: rest) : f.tag ∉ s.waiters.map (·.tag) ∧
      ∀ (c : Fin 4) (m : Move), s.moves[c] = some m → f.tag ∉ m.origin.tag := by
  have hnot := h.held_nodup
  simp only [State.heldTags, hin, List.map_cons, List.cons_append, List.nodup_cons, List.mem_append, not_or] at hnot
  obtain ⟨⟨⟨⟨⟨⟨-, hwait⟩, hmoves⟩, -⟩, -⟩, -⟩, -⟩ := hnot
  refine ⟨hwait, fun c m hm htag => hmoves (List.mem_flatMap.2 ⟨some m, ?_, htag⟩)⟩
  rw [← hm]; simp

/-- R156: the parked BINDs have open tags, each its own. -/
theorem TagInv.waiters_open {s : State} (h : TagInv s) : (s.waiters.map (·.tag)).Nodup ∧
    ∀ w ∈ s.waiters, w.tag ∈ s.link.openTags := by
  have hsub : (s.waiters.map (·.tag)).Sublist s.heldTags := by
    simp only [State.heldTags, List.append_assoc]
    exact (List.sublist_append_left _ _).trans (List.sublist_append_right _ _)
  exact ⟨h.held_nodup.sublist hsub, fun w hw => h.held.mem_iff.1 (hsub.subset (List.mem_map_of_mem hw))⟩

/-! ### Re-examination -/

theorem refuseWaiters_extends (ws : List Waiter) (st : Status) (s : State) :
    s.link.Extends (ws.foldl (fun t w => t.refuseWaiter w st) s).link (ws.map (·.tag)) := by
  induction ws generalizing s with
  | nil => exact .refl _
  | cons w ws ih => exact (s.complete_extends w.tag _).trans (ih _)

/-- R19: parked BINDs with open tags complete oldest first. -/
theorem refuseWaiters_queue (ws : List Waiter) (st : Status) (s : State) (hnd : (ws.map (·.tag)).Nodup)
    (hopen : ∀ w ∈ ws, w.tag ∈ s.link.openTags) : (ws.foldl (fun t w => t.refuseWaiter w st) s).link.queue =
      s.link.queue ++ ws.map fun w => plainRecord w.tag (encodeReqCode .bind) st := by
  induction ws generalizing s with
  | nil => simp
  | cons w ws ih =>
    obtain ⟨hw, hnd⟩ := List.nodup_cons.1 hnd
    have hfirst : s.refuseWaiter w st =
        s.setLink (s.link.complete w.tag (plainRecord w.tag (encodeReqCode .bind) st)) :=
      State.complete_of_open (hopen w (.head _)) _
    have hrest : ∀ v ∈ ws, v.tag ∈ (s.refuseWaiter w st).link.openTags := fun v hv => by
      have hne : v.tag ≠ w.tag := fun e => hw (List.mem_map.2 ⟨v, hv, e⟩)
      rw [hfirst]
      exact (List.mem_erase_of_ne hne).2 (hopen v (.tail _ hv))
    rw [List.foldl_cons, ih _ hnd hrest, hfirst]
    simp [Link.complete]

/-- R15: the park conditions are a matter of units, queues, channels and the checkpoint unit. -/
theorem State.parkCondition_of_tables {s t : State} (hu : t.units = s.units) (hq : t.eraseQueues = s.eraseQueues)
    (hk : t.ckpt = s.ckpt) (hc : t.channels = s.channels) : t.parkCondition = s.parkCondition := by
  simp [State.parkCondition, State.commitWait, State.unitsWhere, State.online, State.freeOn, State.freePool, hu, hq,
    hk, hc]

theorem State.firstOnlineFree_of_tables {s t : State} (hu : t.units = s.units) (hc : t.channels = s.channels) :
    t.firstOnlineFree = s.firstOnlineFree := by
  simp [State.firstOnlineFree, State.freePool, State.online, hu, hc]

/-- R19: what a re-examination does, where the parked BINDs have open tags: it keeps the list while an entry can still
be served, and otherwise completes all of it. -/
theorem State.reexamine_cases {s : State} (hnd : (s.waiters.map (·.tag)).Nodup)
    (hopen : ∀ w ∈ s.waiters, w.tag ∈ s.link.openTags) :
    (s.reexamine = s ∧ (s.parkCondition = true ∨ s.firstOnlineFree ≠ none)) ∨
    (s.reexamine.waiters = [] ∧ s.link.Extends s.reexamine.link (s.waiters.map (·.tag)) ∧
      s.reexamine.link.queue = s.link.queue ++ s.waiters.map (fun w => ⟨w.tag, 2, 5, 0, 0, 0, 0, 0⟩) ∧
      s.parkCondition = false ∧ s.firstOnlineFree = none) := by
  by_cases h : (s.parkCondition || s.firstOnlineFree.isSome) = true
  · refine .inl ⟨if_pos h, ?_⟩
    simpa [Option.isSome_iff_ne_none] using h
  · have hre : s.reexamine = s.waiters.foldl (fun t w => t.refuseWaiter w .noFreeUnit) (s.setWaiters []) := if_neg h
    rw [Bool.not_eq_true, Bool.or_eq_false_iff] at h
    obtain ⟨hpark, hfree⟩ := h
    refine .inr ⟨by rw [hre]; simp, ?_, ?_, hpark, by simpa using hfree⟩
    · rw [hre]; exact refuseWaiters_extends s.waiters _ (s.setWaiters [])
    · rw [hre]; exact refuseWaiters_queue s.waiters _ (s.setWaiters []) hnd hopen

/-! ### The answer of a RETIRE -/

/-- R47: a RETIRE reports the unit as it stands. -/
theorem State.answerRetire_of_some {s : State} {f : Frame} {v : UnitRec} (hv : s.unit? f.number = some v) :
    s.answerRetire f = s.complete f.tag
      ⟨f.tag, 7, 0, pendingFlag v.retirePending, f.argA, 0, join16 v.state.byte 0, 0⟩ := by
  have hnum : BitVec.ofNat 16 f.number = f.argA := by simp [Frame.number]
  simp only [State.answerRetire, hv, retireRecord, hnum]
  rfl

/-- The RETIRE's record of a unit that it has marked, or found marked. -/
theorem State.answerRetire_marked {s : State} {f : Frame} {rest : List Frame} {v : UnitRec}
    (hin : s.link.intake = rest) (hopen : f.tag ∈ s.link.openTags) (hv : s.unit? f.number = some v)
    (hmark : v.retirePending = true) :
    s.answerRetire f = s.answered f rest ⟨f.tag, 7, 0, 4, f.argA, 0, join16 v.state.byte 0, 0⟩ := by
  rw [State.answerRetire_of_some hv, State.complete_of_open hopen, hmark, ← hin]
  rfl

/-! ### RETIRE -/

theorem State.lawful_iff (s : State) : s.lawful = true ↔ s.keysLawful = true ∧ s.queuesLawful = true ∧
    s.bindingsLawful = true ∧ s.movesLawful = true ∧ s.flightsLawful = true ∧ s.holdsLawful = true ∧
    s.deviceLawful = true := by simp [State.lawful, and_assoc]

theorem State.lawful_keys {s : State} (h : s.lawful = true) : s.keysLawful = true := (s.lawful_iff.1 h).1

/-- R36: what stands in an erase queue is a DIRTY unit of its channel. -/
theorem State.dirty_of_queued {s : State} (h : s.lawful = true) {c : Fin 4} {g : Nat} (hg : g ∈ s.eraseQueues[c]) :
    chanOf g = c ∧ s.stateOf g = some .dirty := by
  obtain ⟨-, hqueues, -⟩ := s.lawful_iff.1 h
  simp only [State.queuesLawful, Bool.and_eq_true, List.all_eq_true, decide_eq_true_eq, beq_iff_eq] at hqueues
  obtain ⟨hqueues, -⟩ := hqueues
  obtain ⟨-, hdirty⟩ := hqueues c (List.mem_finRange c)
  exact hdirty g hg

/-- R26: the move of a TARGET unit's channel has the unit as its target and the unit's owner as its logical. -/
theorem State.move_of_target {s : State} (h : s.lawful = true) {g n : Nat} {u : UnitRec} {m : Move}
    (hu : s.unit? g = some u) (hst : u.state = .target n) (hm : s.moves[chanOf g] = some m) :
    m.target = g ∧ m.logical = n := by
  obtain ⟨hkeys, -, -, hmoves, -⟩ := s.lawful_iff.1 h
  simp only [State.movesLawful, Bool.and_eq_true, List.all_eq_true] at hmoves
  obtain ⟨-, htargets⟩ := hmoves
  have htarget := htargets (g, u) ((mem_iff_unitIn (State.keys_nodup hkeys) g u).2 hu)
  simpa [hst, hm] using htarget

/-- R44, R52: the link after the retirement of a unit that a RETIRE has found not RETIRED. -/
theorem State.retired_link {s : State} {rest : List Frame} {q : Vector (List Nat) 4} {g : Nat} {u : UnitRec}
    (hkeys : s.keysLawful = true) (hu : s.unit? g = some u) (hlive : ∀ c, u.state ≠ .retired c) :
    (((s.taken rest).setEraseQueues q).retireUnit g .host).link =
      { s.link.retirement g .host (s.spareCount - 1) s.params.sMin with intake := rest } := by
  rw [State.retireUnit_link, State.retireUnit_spareCount (s := (s.taken rest).setEraseQueues q) .host hkeys hu hlive]
  exact Link.retirement_withIntake s.link rest g .host _ _

/-- R37, R48: a RETIRE of a FREE, DIRTY or WAITING unit takes it out of its erase queue, retires it, re-examines the
bind-waiter list and answers. -/
theorem exec_retire_idle {s : State} {f : Frame} {rest : List Frame} {u : UnitRec} (hp : s.Passes .retire f rest)
    (hlaw : s.lawful = true) (hu : s.unit? f.number = some u)
    (hst : u.state = .free ∨ u.state = .dirty ∨ u.state = .waiting) :
    ∃ q : Vector (List Nat) 4, (∀ c : Fin 4, q[c] = (s.eraseQueues[c]).erase f.number) ∧ exec .retire s =
      .next ((((s.taken rest).setEraseQueues q).retireUnit f.number .host).reexamine.answerRetire f) := by
  have hclean (hnot : u.state ≠ .dirty) (c : Fin 4) : s.eraseQueues[c] = (s.eraseQueues[c]).erase f.number := by
    refine (List.erase_of_not_mem fun hin => hnot ?_).symm
    simpa [State.stateOf, hu] using (State.dirty_of_queued hlaw hin).2
  obtain hst | hst | hst := hst
  · exact ⟨s.eraseQueues, hclean (by simp [hst]), by
      rw [exec_retire hp hu]; simp only [State.retireByState, hst]; rfl⟩
  · refine ⟨s.eraseQueues.set (chanOf f.number) ((s.eraseQueues[chanOf f.number]).erase f.number), fun c => ?_, by
      rw [exec_retire hp hu]; simp only [State.retireByState, hst]; rfl⟩
    by_cases hc : chanOf f.number = c
    · subst hc; simp
    · have hout : f.number ∉ s.eraseQueues[c] := fun hin => hc (State.dirty_of_queued hlaw hin).1
      rw [List.erase_of_not_mem hout]
      simp [Fin.val_ne_of_ne hc]
  · exact ⟨s.eraseQueues, hclean (by simp [hst]), by
      rw [exec_retire hp hu]; simp only [State.retireByState, hst]; rfl⟩

/-- R48: the record of a unit that a RETIRE has retired. -/
theorem State.answerRetire_retired {s : State} {f : Frame} {w : Word16} {n : Nat}
    (hv : s.unit? f.number = some ⟨.retired .host, w, n, false⟩) :
    s.answerRetire f = s.complete f.tag ⟨f.tag, 7, 0, 0, f.argA, 0, join16 7 0, 0⟩ := by
  have hflag : pendingFlag false = 0 := by decide
  rw [State.answerRetire_of_some hv, hflag]; rfl

/-- R44: what a retirement by RETIRE leaves of each unit. -/
theorem State.retired_unit {s : State} {rest : List Frame} {q : Vector (List Nat) 4} {g : Nat} {u : UnitRec}
    (hu : s.unit? g = some u) (x : Nat) : (((s.taken rest).setEraseQueues q).retireUnit g .host).unit? x =
      if x = g then some ⟨.retired .host, u.wear, u.holds, false⟩ else s.unit? x := by
  have hu' : ((s.taken rest).setEraseQueues q).unit? g = some u := hu
  rw [State.unit?_retireUnit, hu']; rfl

theorem State.retired_counted (s : State) (rest : List Frame) (q : Vector (List Nat) 4) (g : Nat) :
    Counted s (((s.taken rest).setEraseQueues q).retireUnit g .host) (fun | .retirements => 1 | _ => 0) :=
  ((s.taken rest).setEraseQueues q).retireUnit_counted g .host

theorem Counted.of_counters {s t t' : State} {rise : Counter → Nat} (h : Counted s t rise)
    (he : t'.counters = t.counters) : Counted s t' rise :=
  fun k hk => (State.counter_of_counters he k).trans (h k hk)

/-- R47, R48, R19: after a retirement the bind-waiter list is re-examined, and the RETIRE's own record is placed
last. -/
theorem State.reexamine_complete {s s2 : State} {tag : Byte} (r : Record) (hext : s.link.Extends s2.link [])
    (hdistinct : s.link.openTags.Nodup) (hopen : tag ∈ s.link.openTags) (hother : tag ∉ s2.waiters.map (·.tag))
    (hnd : (s2.waiters.map (·.tag)).Nodup) (hwaiters : ∀ w ∈ s2.waiters, w.tag ∈ s2.link.openTags) :
    PlacedLast s (s2.reexamine.complete tag r) tag r ∧
    (s2.reexamine.complete tag r).link.intake = s.link.intake ∧
    ∃ gone : List Waiter, (s2.reexamine.complete tag r).link.queue =
        s2.link.queue ++ (gone.map fun w => ⟨w.tag, 2, 5, 0, 0, 0, 0, 0⟩) ++ [r] ∧
      ((gone = [] ∧ (s2.reexamine.complete tag r).waiters = s2.waiters ∧
          (s2.waiters = [] ∨ (s2.reexamine.complete tag r).parkCondition = true ∨
            (s2.reexamine.complete tag r).firstOnlineFree ≠ none)) ∨
        (gone = s2.waiters ∧ (s2.reexamine.complete tag r).waiters = [] ∧
          (s2.reexamine.complete tag r).parkCondition = false ∧
          (s2.reexamine.complete tag r).firstOnlineFree = none)) := by
  have hpark : (s2.reexamine.complete tag r).parkCondition = s2.parkCondition :=
    State.parkCondition_of_tables (by simp) (by simp) (by simp) (by simp)
  have hfree : (s2.reexamine.complete tag r).firstOnlineFree = s2.firstOnlineFree :=
    State.firstOnlineFree_of_tables (by simp) (by simp)
  rw [hpark, hfree]
  obtain ⟨hre, hserve⟩ | ⟨hempty, hgrow, hqueue, hnopark, hnofree⟩ := State.reexamine_cases hnd hwaiters
  · rw [hre]
    have hopen2 : tag ∈ s2.link.openTags := hext.tags ▸ hopen
    refine ⟨placedLast_complete hext hopen (by simp) hdistinct r, ?_, [], ?_, .inl ⟨rfl, by simp, .inr hserve⟩⟩
    · rw [((s2.complete_extends tag r).intake), hext.intake]
    · rw [State.complete_of_open hopen2]; simp [Link.complete]
  · have hgrow := hext.trans hgrow
    have hopen2 : tag ∈ s2.reexamine.link.openTags := hgrow.tags ▸ List.mem_diff_of_mem hopen hother
    refine ⟨placedLast_complete hgrow hopen hother hdistinct r, ?_, s2.waiters, ?_,
      .inr ⟨rfl, by simp [hempty], hnopark, hnofree⟩⟩
    · rw [((s2.reexamine.complete_extends tag r).intake), hgrow.intake]
    · rw [State.complete_of_open hopen2]; simp [Link.complete, hqueue]

/-- R48: the mark of a RETIRE on a unit, and its answer. -/
theorem State.mark_answerRetire {s t : State} {f : Frame} {rest : List Frame} {u : UnitRec}
    (hu : s.unit? f.number = some u) (hunits : t.units = s.units) (hin : t.link.intake = rest)
    (hopen : f.tag ∈ t.link.openTags) : (t.markRetirePending f.number).answerRetire f =
      State.answered { t with units := modifyIn t.units f.number fun u => { u with retirePending := true } } f rest
        ⟨f.tag, 7, 0, 4, f.argA, 0, join16 u.state.byte 0, 0⟩ := by
  have hv : (t.markRetirePending f.number).unit? f.number = some { u with retirePending := true } := by
    rw [State.markRetirePending, State.unit?_modifyUnit, if_pos rfl, State.unit?_of_units hunits, hu]; rfl
  exact State.answerRetire_marked (v := { u with retirePending := true }) hin hopen hv rfl

/-- R26: a RETIRE of a TARGET unit finds the move of its channel. -/
theorem State.moveOfTarget_eq {s : State} (h : s.lawful = true) {g n : Nat} {u : UnitRec} {m : Move}
    (hu : s.unit? g = some u) (hst : u.state = .target n) (hm : s.moves[chanOf g] = some m) :
    s.moveOfTarget g = some m := by
  simp only [State.moveOfTarget, hm, (State.move_of_target h hu hst hm).1, if_true]

/-- R48: a RETIRE of a TARGET unit acts by the phase of its move. -/
theorem exec_retire_target {s : State} {f : Frame} {rest : List Frame} {u : UnitRec} {n : Nat}
    (hp : s.Passes .retire f rest) (hu : s.unit? f.number = some u) (hst : u.state = .target n) :
    exec .retire s = .next ((s.taken rest).retireTarget f f.number) := by
  rw [exec_retire hp hu]
  simp only [State.retireByState, hst]

theorem State.retireTarget_abandoning {s : State} {f : Frame} {g : Nat} {m : Move} (hm : s.moveOfTarget g = some m)
    (hph : m.phase = .abandoning) : s.retireTarget f g = (s.markRetirePending g).answerRetire f := by
  simp only [State.retireTarget, hm, hph]

/-- R86: the COPY of the move goes on, and the move is ABANDONING. -/
theorem State.retireTarget_copying {s : State} {f : Frame} {g : Nat} {m : Move} (hm : s.moveOfTarget g = some m)
    (hph : m.phase = .copying) : s.retireTarget f g =
      (((s.clearMoveRef m.logical).setMove (chanOf g) (some { m with phase := .abandoning })).markRetirePending
        g).answerRetire f := by
  simp only [State.retireTarget, hm, hph]

/-- R85: the move leaves the list with its outcome, which stands before the RETIRE's own record. -/
theorem State.retireTarget_assigned {s : State} {f : Frame} {g : Nat} {m : Move} (hm : s.moveOfTarget g = some m)
    (hph : m.phase = .assigned) : s.retireTarget f g =
      ((((((s.clearMoveRef m.logical).retireUnit g .host).endMove (chanOf g) m .moveAbandoned .none
        (s.bindingOf m.logical)).answerRetire f).evaluate (chanOf g)).settle none) := by
  simp only [State.retireTarget, hm, hph]

/-- R177: an abandoned ASSIGNED move whose target is retired counts the retirement and the abandonment. -/
theorem State.abandoned_counted (s : State) (g n : Nat) (c : Fin 4) (m : Move) (after : Option Nat × Word16) :
    Counted s (((s.clearMoveRef n).retireUnit g .host).endMove c m .moveAbandoned .none after)
      (fun | .retirements => 1 | .movesAbandoned => 1 | _ => 0) := by
  intro k hk
  have hcleared : (((s.clearMoveRef n).retireUnit g .host).setMove c none).counter k =
      if k = .retirements then s.counter k + 1 else s.counter k :=
    (s.clearMoveRef n).retireUnit_counter g .host hk
  rw [State.endMove, State.reportMove_counter _ _ _ _ _ _ hk, State.counter_count, hcleared]
  cases k <;> simp [outcomeCounter]

/-- Settles O34, state by state of the unit, and phase by phase of a TARGET unit's move. -/
theorem retireActsByState : Obligations.RetireActsByState := by
  intro s f rest g u hp hlaw htag hg hu report marked
  obtain rfl : f.number = g := hg
  have hkeys := State.lawful_keys hlaw
  obtain ⟨hnotWaiting, hnotMoving⟩ := htag.head_elsewhere hp.head
  refine ⟨fun hst => ?_, fun hst => ?_, fun hst => ?_, fun n hst hmark => ?_, fun n hst hmark => ?_,
    fun n m hst hm => ⟨fun hph => ?_, fun hph => ?_, fun hph => ?_⟩⟩
  · -- FREE, DIRTY or WAITING: retired, the bind-waiter list re-examined, then answered.
    obtain ⟨q, hq, hexec⟩ := exec_retire_idle hp hlaw hu hst
    have hlive : ∀ c, u.state ≠ .retired c := fun c hc => by simp [hc] at hst
    let s2 := ((s.taken rest).setEraseQueues q).retireUnit f.number .host
    have hunit (x : Nat) : s2.unit? x =
        if x = f.number then some ⟨.retired .host, u.wear, u.holds, false⟩ else s.unit? x := State.retired_unit hu x
    have hlink : s2.link = _ := State.retired_link hkeys hu hlive
    have hext : (s.taken rest).link.Extends s2.link [] :=
      ((s.taken rest).setEraseQueues q).retireUnit_extends f.number .host
    have hwaiters : s2.waiters = s.waiters := by simp [s2, State.taken]
    obtain ⟨hnd, hopen⟩ := htag.waiters_open
    have hv : s2.reexamine.unit? f.number = some ⟨.retired .host, u.wear, u.holds, false⟩ := by
      rw [State.unit?_of_units (s := s2) (by simp), hunit, if_pos rfl]
    obtain ⟨hlast, hintake, gone, hqueue, hgone⟩ := State.reexamine_complete (s := s.taken rest) (s2 := s2)
      (report 7 0) hext htag.distinct hp.opened (by rwa [hwaiters]) (by rwa [hwaiters])
      (by rw [hwaiters, hext.tags]; exact hopen)
    rw [hlink] at hqueue
    rw [hwaiters] at hgone
    refine ⟨s2.reexamine.answerRetire f, hexec, ?_⟩
    rw [State.answerRetire_retired hv]
    refine ⟨by simp [State.SameControl, s2, State.taken], ?_, fun x hx => ?_, fun c => ?_, hlast, hintake,
      ⟨gone, hqueue, hgone⟩, ?_⟩
    · rw [State.unit?_of_units (s := s2.reexamine) (by simp), hv]
    · rw [State.unit?_of_units (s := s2) (by simp), hunit, if_neg hx]
    · simpa [s2] using hq c
    · refine ⟨?_, ?_, ?_, ?_, ?_, (s.retired_counted rest q f.number).of_counters (by simp [s2])⟩
      all_goals simp [s2, State.taken]
  · -- DRAINING: retired and answered.
    let s2 := (s.taken rest).retireUnit f.number .host
    have hv : s2.unit? f.number = some ⟨.retired .host, u.wear, u.holds, false⟩ :=
      (State.retired_unit (q := s.eraseQueues) hu _).trans (if_pos rfl)
    have hext : (s.taken rest).link.Extends s2.link [] := State.retireUnit_extends _ _ _
    refine ⟨s2.answerRetire f, (exec_retire hp hu).trans (by simp only [State.retireByState, hst]; rfl), ?_⟩
    rw [State.answerRetire_retired hv]
    refine ⟨by simp [State.SameControl, s2, State.taken], ?_, fun x hx => ?_,
      placedLast_complete (s := s.taken rest) hext hp.opened (by simp) htag.distinct _, ?_, ?_⟩
    · rw [State.unit?_of_units (s := s2) (by simp), hv]
    · rw [State.unit?_of_units (s := s2) (by simp)]
      exact (State.retired_unit (q := s.eraseQueues) hu x).trans (if_neg hx)
    · rw [(s2.complete_extends f.tag _).intake, hext.intake]; rfl
    · refine ⟨?_, ?_, ?_, ?_, ?_, ?_, ?_,
        (s.retired_counted rest s.eraseQueues f.number).of_counters (t' := s2.complete _ _) (by simp [s2]; rfl)⟩
      all_goals simp [s2, State.taken]
  · -- ERASING: marked and answered.
    rw [exec_retire hp hu]
    simp only [State.retireByState, hst]
    rw [State.mark_answerRetire (t := s.taken rest) hu rfl rfl hp.opened, hst]
    rfl
  · -- BOUND and already marked: answered.
    rw [exec_retire hp hu]
    simp only [State.retireByState, hst, hmark, if_true]
    rw [State.answerRetire_marked (s := s.taken rest) rfl hp.opened hu hmark, hst]
    rfl
  · -- BOUND: marked and answered; the monitor then looks at the channel.
    rw [exec_retire hp hu]
    simp only [State.retireByState, hst, hmark, Bool.false_eq_true, if_false]
    rw [State.mark_answerRetire (t := s.taken rest) hu rfl rfl hp.opened, hst]
    rfl
  · -- TARGET of an ABANDONING move: marked and answered.
    have hmove : (s.taken rest).moveOfTarget f.number = some m := State.moveOfTarget_eq hlaw hu hst hm
    rw [exec_retire_target hp hu hst, State.retireTarget_abandoning hmove hph,
      State.mark_answerRetire (t := s.taken rest) hu rfl rfl hp.opened, hst]
    rfl
  · -- TARGET of a COPYING move: the move is abandoned, the unit marked.
    have hmove : (s.taken rest).moveOfTarget f.number = some m := State.moveOfTarget_eq hlaw hu hst hm
    let s2 := ((s.taken rest).clearMoveRef m.logical).setMove (chanOf f.number) (some { m with phase := .abandoning })
    rw [exec_retire_target hp hu hst, State.retireTarget_copying hmove hph,
      State.mark_answerRetire (t := s2) hu rfl rfl hp.opened, hst, ← (State.move_of_target hlaw hu hst hm).2]
    rfl
  · -- TARGET of an ASSIGNED move: the move ends and the unit is retired.
    have hmove : (s.taken rest).moveOfTarget f.number = some m := State.moveOfTarget_eq hlaw hu hst hm
    obtain rfl : m.logical = n := (State.move_of_target hlaw hu hst hm).2
    let s2 := ((s.taken rest).clearMoveRef m.logical).retireUnit f.number .host
    let s3 := s2.endMove (chanOf f.number) m .moveAbandoned .none (s.bindingOf m.logical)
    have hunit (x : Nat) : s3.unit? x =
        if x = f.number then some ⟨.retired .host, u.wear, u.holds, false⟩ else s.unit? x := by
      rw [State.unit?_of_units (s := s2) (by simp [s3]), State.unit?_retireUnit]
      exact congrArg₂ _ (congrArg _ hu) rfl
    have hext : (s.taken rest).link.Extends s3.link m.origin.tag :=
      (State.retireUnit_extends ((s.taken rest).clearMoveRef m.logical) f.number .host).trans
        (s2.endMove_extends _ _ _ _ _)
    refine ⟨s3.answerRetire f, by rw [exec_retire_target hp hu hst, State.retireTarget_assigned hmove hph]; rfl, ?_⟩
    rw [State.answerRetire_retired ((hunit _).trans (if_pos rfl))]
    refine ⟨by simp [State.SameControl, s2, s3, State.taken], ?_, fun x hx => ?_, ?_, ?_,
      placedLast_complete (s := s.taken rest) hext hp.opened (hnotMoving _ m hm) htag.distinct _, ?_, ?_⟩
    · rw [State.unit?_of_units (s := s3) (by simp), hunit, if_pos rfl]
    · rw [State.unit?_of_units (s := s3) (by simp), hunit, if_neg hx]
    · simp [s2, s3]; rfl
    · simp [s2, s3, State.endMove, State.setMove]; rfl
    · rw [(s3.complete_extends f.tag _).intake, hext.intake]; rfl
    · refine ⟨?_, ?_, ?_, ?_, ?_, Counted.of_counters (t := s3)
        ((s.taken rest).abandoned_counted f.number m.logical (chanOf f.number) m (s.bindingOf m.logical)) (by simp)⟩
      all_goals simp [s2, s3, State.taken]

end Sys2Proof.Machine

/-! SUPPORT. Deadlines and the clock (R53, R54, R130, R138); with O5 and O6. -/
namespace Sys2Proof.Machine

/-! ### Deadlines -/

/-- R54: `n` ticks after its start a deadline has run for `n` ticks, across the wrap of the counter. -/
theorem deadlinePassed_after (start : Word32) (d n : Nat) (hn : n < 2 ^ 32) :
    deadlinePassed (start + BitVec.ofNat 32 n) start d = true ↔ d ≤ n := by
  have helapsed : (start + BitVec.ofNat 32 n - start).toNat = n := by
    rw [BitVec.add_comm, BitVec.add_sub_cancel, BitVec.toNat_ofNat, Nat.mod_eq_of_lt hn]
  rw [deadlinePassed, helapsed, decide_eq_true_iff]

/-- Settles O6, by the ticks that have gone by. -/
theorem deadlinePassesAtItsTick : Obligations.DeadlinePassesAtItsTick := deadlinePassed_after

/-! ### The pin and the tick -/

/-- A channel with the probe's RESET in flight since the tick `now` (R130). -/
def Channel.probing (now : Word32) (ch : Channel) : Channel :=
  { ch with inFlight := some ⟨.reset, .stateControl, now⟩ }

/-- Each entry whose index the list names once is changed, and no other. -/
theorem foldl_set_getElem {α : Type} {n : Nat} (f : α → α) {cs : List (Fin n)} (hnd : cs.Nodup) (v : Vector α n)
    (c : Fin n) : (cs.foldl (fun (w : Vector α n) (d : Fin n) => w.set d (f w[d])) v)[c] =
      if c ∈ cs then f v[c] else v[c] := by
  induction cs generalizing v with
  | nil => simp
  | cons d cs ih =>
    obtain ⟨hd, hnd⟩ := List.nodup_cons.1 hnd
    rw [List.foldl_cons, ih hnd]
    by_cases hc : c = d
    · subst hc; simp [hd]
    · have hne : d.val ≠ c.val := fun h => hc (Fin.ext h.symm)
      simp [hc, hne]

/-- R130: RESET issued on several channels changes the channel records alone. -/
theorem issueResets_eq (cs : List (Fin 4)) (s : State) :
    cs.foldl (fun t c => t.issueOp c .reset .stateControl) s = s.setChannels
      (cs.foldl (fun (w : Vector Channel 4) (d : Fin 4) => w.set d (Channel.probing s.tick w[d])) s.channels) := by
  induction cs generalizing s with
  | nil => rfl
  | cons c cs ih => exact ih _

/-- R130: RESET on each of the four channels. -/
theorem issueResets_all (s : State) :
    (List.finRange 4).foldl (fun t c => t.issueOp c .reset .stateControl) s =
      s.setChannels (s.channels.map (Channel.probing s.tick)) := by
  rw [issueResets_eq]
  congr 1
  refine Vector.ext fun c hc => ?_
  have hset := foldl_set_getElem (Channel.probing s.tick) (List.nodup_finRange 4) s.channels ⟨c, hc⟩
  simpa using hset

/-- Settles O5, by the level of RESET_N. -/
theorem clockCommandsComplete : Obligations.ClockCommandsComplete := by
  intro s
  simp only [exec, execTick, execResetNRelease, State.whenRunning, issueResets_all]
  exact ⟨rfl, rfl⟩

end Sys2Proof.Machine

/-! SUPPORT. Handles (R57); with O30. -/
namespace Sys2Proof.Machine

/-! ### Handles -/

theorem lo8_toNat (w : Word16) : (lo8 w).toNat = w.toNat % 256 := by
  simp [lo8]

theorem hi8_toNat (w : Word16) : (hi8 w).toNat = w.toNat / 256 := by
  have hw := w.isLt
  simp only [hi8, BitVec.extractLsb'_toNat, Nat.shiftRight_eq_div_pow]
  omega

/-- R57: a handle is slot × 256 + sequence. -/
theorem handleOf_toNat (i : Fin 64) (q : Byte) : (handleOf i q).toNat = i.val * 256 + q.toNat := by
  have hi : i.val % 2 ^ 8 = i.val := Nat.mod_eq_of_lt (by omega)
  rw [handleOf, BitVec.toNat_append, BitVec.toNat_ofNat, hi, ← Nat.shiftLeft_add_eq_or_of_lt q.isLt,
    Nat.shiftLeft_eq]

theorem handleOf_eq_ofNat (i : Fin 64) (q : Byte) : handleOf i q = BitVec.ofNat 16 (i.val * 256 + q.toNat) := by
  rw [← handleOf_toNat, BitVec.ofNat_toNat, BitVec.setWidth_eq]

/-- R57: a handle names the entry of its slot when that entry has its sequence. -/
theorem State.currentHandle_iff (s : State) (h : Word16) (i : Fin 64) (e : HoldEntry) :
    s.currentHandle h = some (i, e) ↔
      (s.holds[i]).entry = some e ∧ h.toNat = i.val * 256 + e.sequence.toNat := by
  have hq := e.sequence.isLt
  have hbytes : h.toNat = i.val * 256 + e.sequence.toNat ↔ (hi8 h).toNat = i.val ∧ e.sequence = lo8 h := by
    rw [← BitVec.toNat_inj, lo8_toNat, hi8_toNat]
    omega
  rw [hbytes, State.currentHandle]
  constructor
  · intro hcur
    split at hcur
    · next hlt =>
      split at hcur
      · next e' he' =>
        split at hcur
        · next hseq =>
          obtain ⟨rfl, rfl⟩ := Prod.mk.inj (Option.some.inj hcur)
          exact ⟨he', rfl, hseq⟩
        · cases hcur
      · cases hcur
    · cases hcur
  · rintro ⟨he, hslot, hseq⟩
    have hlt : (hi8 h).toNat < 64 := hslot ▸ i.isLt
    have hi : (⟨(hi8 h).toNat, hlt⟩ : Fin 64) = i := Fin.ext hslot
    simp only [dif_pos hlt, hi, he, hseq, if_true]

/-- R57: the handle of a slot's entry is current. -/
theorem State.currentHandle_of_entry {s : State} {h : Word16} {i : Fin 64} {e : HoldEntry}
    (he : (s.holds[i]).entry = some e) (hh : h = BitVec.ofNat 16 (i.val * 256 + e.sequence.toNat)) :
    s.currentHandle h = some (i, e) := by
  rw [← handleOf_eq_ofNat] at hh
  exact (s.currentHandle_iff h i e).2 ⟨he, hh ▸ handleOf_toNat i e.sequence⟩

/-- R57: a handle that is no entry's is stale. -/
theorem State.currentHandle_eq_none {s : State} {h : Word16}
    (hno : ∀ (i : Fin 64) (e : HoldEntry), (s.holds[i]).entry = some e →
      h.toNat ≠ i.val * 256 + e.sequence.toNat) : s.currentHandle h = none := by
  refine Option.eq_none_iff_forall_ne_some.2 fun ⟨i, e⟩ hcur => ?_
  obtain ⟨he, hh⟩ := (s.currentHandle_iff h i e).1 hcur
  exact hno i e he hh

/-- Settles O30, by the two bytes of a handle. -/
theorem handleNamesItsEntry : Obligations.HandleNamesItsEntry := by
  refine ⟨handleOf_toNat, State.currentHandle_iff, fun s h hbig => ?_, fun s h hinv hlow => ?_⟩
  · refine State.currentHandle_eq_none fun i e _ hh => ?_
    have hq := e.sequence.isLt
    omega
  · refine State.currentHandle_eq_none fun i e he hh => ?_
    obtain ⟨-, hseq⟩ := hinv i e he
    have hq := e.sequence.isLt
    exact hseq (BitVec.eq_of_toNat_eq (by simp; omega))

end Sys2Proof.Machine

/-! SUPPORT. The sequence law of the hold table (R55, R57, R58) and the operations that keep it; with O31. -/
namespace Sys2Proof.Machine

/-! ### The law of one slot -/

/-- R55, R57: the slot is free, or its entry carries the slot's sequence counter, which is not 0. -/
def HoldSlot.Sequenced (h : HoldSlot) : Prop := ∀ e, h.entry = some e → e.sequence = h.seq ∧ e.sequence ≠ 0

/-- R55, R57: every slot of the table is sequenced. -/
def Sequenced (hs : Vector HoldSlot 64) : Prop := ∀ i : Fin 64, (hs[i]).Sequenced

theorem holdInv_iff (s : State) : HoldInv s ↔ Sequenced s.holds := Iff.rfl

/-- R57: a free slot is sequenced, whatever its counter. -/
theorem HoldSlot.sequenced_free (q : Byte) : (HoldSlot.mk q none).Sequenced := fun _ he => by cases he

theorem HoldSlot.sequenced_of_entry {q : Byte} {e : HoldEntry} (he : e.sequence = q) (hq : q ≠ 0) :
    (HoldSlot.mk q (some e)).Sequenced := by
  rintro _ ⟨⟩
  exact ⟨he, he ▸ hq⟩

theorem Sequenced.set {hs : Vector HoldSlot 64} (h : Sequenced hs) (i : Fin 64) {x : HoldSlot} (hx : x.Sequenced) :
    Sequenced (hs.set i x) := by
  intro j
  by_cases hj : i.val = j.val
  · obtain rfl : i = j := Fin.ext hj
    simpa using hx
  · have hj' := h j
    simpa [hj] using hj'

/-- R58: the sequence counter runs from 1 to 255. -/
theorem nextSequence_ne_zero (b : Byte) : nextSequence b ≠ 0 := by
  unfold nextSequence
  split
  · decide
  · bv_omega

/-! ### The operations on holds -/

@[simp] theorem State.takeHold_sequenced (s : State) (g n : Nat) (gen : Word16) (h : Sequenced s.holds) :
    Sequenced (s.takeHold g n gen).1.holds := by
  unfold State.takeHold
  split
  · exact h
  · next i _ =>
    have hslot : (HoldSlot.mk (nextSequence (s.holds[i]).seq)
        (some ⟨nextSequence (s.holds[i]).seq, g, n, gen, s.tick, s.params.tHold⟩)).Sequenced :=
      HoldSlot.sequenced_of_entry rfl (nextSequence_ne_zero _)
    simpa using h.set i hslot

/-- R60: the removal frees the entry's slot and keeps its sequence counter. -/
theorem State.removeHold_holds (s : State) (i : Fin 64) (e : HoldEntry) :
    (s.removeHold i e).holds = s.holds.set i ⟨(s.holds[i]).seq, none⟩ := by
  unfold State.removeHold
  dsimp only
  split
  · split <;> simp
  · simp

@[simp] theorem State.removeHold_sequenced (s : State) (i : Fin 64) (e : HoldEntry) (h : Sequenced s.holds) :
    Sequenced (s.removeHold i e).holds := by
  rw [State.removeHold_holds]
  exact h.set i (HoldSlot.sequenced_free _)

@[simp] theorem releaseAndTests_holds (gs : List Nat) (s : State) :
    (gs.foldl State.releaseAndTest s).holds = s.holds := by
  induction gs generalizing s with
  | nil => rfl
  | cons g gs ih => simp [ih, State.releaseAndTest]

/-- R68: LINK RESET leaves every slot free. -/
theorem State.linkReset_sequenced (s : State) : Sequenced s.linkReset.holds := by
  intro i
  simp [State.linkReset, State.removeAllHolds, State.orphanAll, HoldSlot.sequenced_free]

/-- R62: a renewed entry keeps its sequence. -/
theorem renewEffect_sequenced (f : Frame) (s : State) (h : Sequenced s.holds) : Sequenced (renewEffect f s).holds := by
  unfold renewEffect
  split
  · simpa using h
  · next i e hcur =>
    obtain ⟨he, -⟩ := (s.currentHandle_iff _ i e).1 hcur
    obtain ⟨hseq, hne⟩ := h i e he
    simpa using h.set i (HoldSlot.sequenced_of_entry (e := { e with start := s.tick, lifetime := s.params.tHold })
      hseq (hseq ▸ hne))

/-! ### The operations that may take holds: a BIND that takes effect, now or from the list -/

@[simp] theorem State.bindEffect_sequenced (s : State) (tag : Byte) (n : Nat) (hold : Bool) (g : Nat)
    (h : Sequenced s.holds) : Sequenced (s.bindEffect tag n hold g).1.holds := by
  unfold State.bindEffect
  dsimp only
  (repeat' split) <;> simp [h]

@[simp] theorem serve_sequenced (ws : List Waiter) (s : State) (h : Sequenced s.holds) :
    Sequenced (serve ws s).1.holds := by
  induction ws generalizing s with
  | nil => exact h
  | cons w ws ih =>
    unfold serve
    split
    · exact h
    · dsimp only
      split
      · exact ih _ (by simpa using h)
      · exact ih _ (State.bindEffect_sequenced _ _ _ _ _ h)

@[simp] theorem State.serveWaiters_sequenced (s : State) (h : Sequenced s.holds) :
    Sequenced s.serveWaiters.1.holds := serve_sequenced s.waiters s h

@[simp] theorem State.afterAbandon_sequenced (s : State) (left : List (Fin 4)) (h : Sequenced s.holds) :
    Sequenced (s.afterAbandon left).holds := by
  unfold State.afterAbandon
  split <;> simp [h]

@[simp] theorem State.serveAndReexamine_sequenced (s : State) (h : Sequenced s.holds) :
    Sequenced s.serveAndReexamine.holds := by simp [State.serveAndReexamine, h]

@[simp] theorem State.afterErase_sequenced (s : State) (c : Fin 4) (h : Sequenced s.holds) :
    Sequenced (s.afterErase c).holds := by simp [State.afterErase, h]

@[simp] theorem State.restartSucceeds_sequenced (s : State) (c : Fin 4) (h : Sequenced s.holds) :
    Sequenced (s.restartSucceeds c).holds := by
  unfold State.restartSucceeds
  dsimp only
  split <;> simp [h]

@[simp] theorem State.restartIdentifies_sequenced (s : State) (c : Fin 4) (n : Word16) (h : Sequenced s.holds) :
    Sequenced (s.restartIdentifies c n).holds := by
  unfold State.restartIdentifies
  split <;> simp [h]

/-! ### The commands, by kind -/

/-- R123: of the accepted replies, those that end a usable unit's erase or a restart may wake parked BINDs. -/
theorem State.handReply_sequenced (s : State) (c : Fin 4) (op : Op) (r : Reply) (h : Sequenced s.holds) :
    Sequenced (s.handReply c op r).holds := by
  unfold State.handReply
  split <;> simp [State.unitEraseDone, State.unitEraseFails, h]

theorem State.replyArrives_sequenced (s : State) (c : Fin 4) (r : Reply) (h : Sequenced s.holds) :
    Sequenced (s.replyArrives c r).holds := by
  unfold State.replyArrives
  split
  · simpa using h
  · split
    · exact State.handReply_sequenced _ c _ r (by simpa using h)
    · simpa using h

@[simp] theorem State.answerRetire_holds (s : State) (f : Frame) : (s.answerRetire f).holds = s.holds := by
  unfold State.answerRetire
  split <;> simp

@[simp] theorem State.reexamineAndAnswer_holds (s : State) (f : Frame) : (s.reexamineAndAnswer f).holds = s.holds := by
  simp [State.reexamineAndAnswer]

@[simp] theorem State.retireTarget_holds (s : State) (f : Frame) (g : Nat) : (s.retireTarget f g).holds = s.holds := by
  unfold State.retireTarget State.markRetirePending
  (repeat' split) <;> simp

theorem effectOf_sequenced (k : ReqCode) (f : Frame) (s : State) (h : Sequenced s.holds) :
    Sequenced (effectOf k f s).holds := by
  cases k with
  | lookup => simp only [effectOf, lookupEffect, State.lookupHold, State.answerLookup]; (repeat' split) <;> simp [h]
  | bind => simp only [effectOf, bindRequest]; (repeat' split) <;> simp [h]
  | unbind => simp only [effectOf, unbindEffect, State.unbindLogical]; split <;> simp [h]
  | move => simp only [effectOf, moveEffect]; (repeat' split) <;> simp [h]
  | release => simp only [effectOf, releaseEffect, State.releaseHold]; split <;> simp [h]
  | renew => exact renewEffect_sequenced f s h
  | retire =>
    simp only [effectOf, retireEffect, State.retireByState]
    (repeat' split) <;> simp [State.markRetirePending, h]
  | queryUnit => simp only [effectOf, queryEffect]; split <;> simp [h]
  | checkpoint => simp only [effectOf, checkpointEffect]; (repeat' split) <;> simp [h]
  | restartChannel => simp only [effectOf, restartEffect, State.startRestart]; (repeat' split) <;> simp [h]
  | enterService => simp only [effectOf, enterServiceEffect]; (repeat' split) <;> simp [h]
  | leaveService => simp [effectOf, leaveServiceEffect, h]
  | format => simp only [effectOf, formatEffect]; split <;> simp [h]
  | getParameter => simp only [effectOf, getParameterEffect]; split <;> simp [h]
  | setParameter => simp only [effectOf, setParameterEffect]; (repeat' split) <;> simp [h]
  | readCounter => simp only [effectOf, readCounterEffect]; split <;> simp [h]
  | clearCounters => simp [effectOf, clearCountersEffect, h]

theorem State.takeRequest_sequenced (s : State) (k : ReqCode) (h : Sequenced s.holds) :
    Sequenced (s.takeRequest k (effectOf k)).holds := by
  obtain he | ⟨f, rest, -, ⟨st, he⟩ | he⟩ := s.takeRequest_cases k (effectOf k)
  · rwa [he]
  · rw [he]; simpa [State.taken] using h
  · rw [he]; exact effectOf_sequenced k f _ h

/-- R138: what holds of a state and of what an event makes of it holds after the event, RESET_N low or high. -/
theorem State.whenRunning_of {P : State → Prop} {s : State} {f : State → State} (hs : P s) (hf : P (f s)) :
    P (s.whenRunning f) := by
  unfold State.whenRunning
  split
  · exact hs
  · exact hf

/-- A command that is neither a die's reply nor the taking of a request: an event of the pins, the clock or the link,
or the unit reset of a FORMAT. -/
inductive IsEvent : Instr → Prop where
  | hardwareReset : IsEvent .hardwareReset
  | resetNRelease : IsEvent .resetNRelease
  | tick : IsEvent .tick
  | holdExpiry (slot : Fin 64) : IsEvent (.holdExpiry slot)
  | operationDeadline (c : Fin 4) : IsEvent (.operationDeadline c)
  | request (raw : RawFrame) (extra : Nat) : IsEvent (.request raw extra)
  | fetch (extra : Nat) : IsEvent (.fetch extra)
  | status (extra : Nat) : IsEvent (.status extra)
  | linkReset (extra : Nat) : IsEvent (.linkReset extra)
  | transactionDiscarded (d : Discard) : IsEvent (.transactionDiscarded d)
  | formatUnitReset : IsEvent .formatUnitReset

/-- Every command is a die's reply, the taking of a request, or one of the other events. -/
theorem command_kinds (i : Instr) : (replyOf i).isSome = true ∨ (∃ k, i = requestCommand k) ∨ IsEvent i := by
  cases i with
  | hardwareReset | resetNRelease | tick | holdExpiry | operationDeadline | request | fetch | status | linkReset
  | transactionDiscarded | formatUnitReset => exact .inr (.inr (by constructor))
  | lookup => exact .inr (.inl ⟨.lookup, rfl⟩)
  | bind => exact .inr (.inl ⟨.bind, rfl⟩)
  | unbind => exact .inr (.inl ⟨.unbind, rfl⟩)
  | move => exact .inr (.inl ⟨.move, rfl⟩)
  | release => exact .inr (.inl ⟨.release, rfl⟩)
  | renew => exact .inr (.inl ⟨.renew, rfl⟩)
  | retire => exact .inr (.inl ⟨.retire, rfl⟩)
  | queryUnit => exact .inr (.inl ⟨.queryUnit, rfl⟩)
  | checkpoint => exact .inr (.inl ⟨.checkpoint, rfl⟩)
  | restartChannel => exact .inr (.inl ⟨.restartChannel, rfl⟩)
  | enterService => exact .inr (.inl ⟨.enterService, rfl⟩)
  | leaveService => exact .inr (.inl ⟨.leaveService, rfl⟩)
  | format => exact .inr (.inl ⟨.format, rfl⟩)
  | getParameter => exact .inr (.inl ⟨.getParameter, rfl⟩)
  | setParameter => exact .inr (.inl ⟨.setParameter, rfl⟩)
  | readCounter => exact .inr (.inl ⟨.readCounter, rfl⟩)
  | clearCounters => exact .inr (.inl ⟨.clearCounters, rfl⟩)
  | eraseDone | eraseFail | copyDone | copyFailProgram | copyFailRead | slotEraseDone | slotEraseFail
  | writeImageDone | writeImageFail | readImageDone | readImageFail | probeResetDone | probeIdent | restartResetDone
  | restartIdent | formatSlotEraseDone | formatSlotEraseFail | unacceptedReply | strayReply => exact .inl rfl

/-- Of the other events, a hardware reset and a LINK RESET free every slot, and an expiry frees its own. -/
theorem IsEvent.exec_sequenced {i : Instr} {s t : State} (hi : IsEvent i) (hexec : exec i s = .next t)
    (h : Sequenced s.holds) : Sequenced t.holds := by
  have running {f : State → State} (hf : Sequenced (f s).holds) : Sequenced (s.whenRunning f).holds :=
    State.whenRunning_of (P := fun u => Sequenced u.holds) h hf
  cases hi with
  | hardwareReset =>
    cases hexec
    intro j
    simp [State.reset, HoldSlot.sequenced_free]
  | resetNRelease =>
    cases hexec
    split
    · rw [issueResets_eq]; exact h
    · exact h
  | tick => cases hexec; exact running h
  | holdExpiry slot =>
    cases hexec
    refine running ?_
    (repeat' split) <;> simp [State.expireHold, h]
  | operationDeadline c =>
    cases hexec
    refine running ?_
    (repeat' split) <;> simp [h]
  | request raw extra =>
    cases hexec
    refine running ?_
    unfold State.takeFrame
    split <;> exact h
  | fetch extra => cases hexec; exact running h
  | status extra => cases hexec; exact h
  | linkReset extra => cases hexec; exact running s.linkReset_sequenced
  | transactionDiscarded d =>
    rw [exec, execTransactionDiscarded] at hexec
    split at hexec
    · cases hexec; exact running (by simpa using h)
    · cases hexec
  | formatUnitReset =>
    cases hexec
    refine running ?_
    (repeat' split) <;> simp [State.unitReset, h]

theorem exec_sequenced {i : Instr} {s t : State} (hexec : exec i s = .next t) (h : Sequenced s.holds) :
    Sequenced t.holds := by
  obtain hreply | ⟨k, rfl⟩ | hevent := command_kinds i
  · obtain ⟨⟨c, r⟩, hreply⟩ := Option.isSome_iff_exists.1 hreply
    rw [exec_of_replyOf hreply] at hexec
    cases hexec
    exact State.whenRunning_of (P := fun u => Sequenced u.holds) h (s.replyArrives_sequenced c r h)
  · rw [exec_requestCommand] at hexec
    cases hexec
    exact State.whenRunning_of (P := fun u => Sequenced u.holds) h (s.takeRequest_sequenced k h)
  · exact hevent.exec_sequenced hexec h

/-- Settles O31: the law is one of the hold table alone, and each kind of command keeps it. -/
theorem holdSequencesKept : Obligations.HoldSequencesKept := by
  intro s t h hstep
  unfold step at hstep
  split at hstep
  · cases hstep; exact h
  · exact (holdInv_iff t).2 (exec_sequenced hstep ((holdInv_iff s).1 h))

end Sys2Proof.Machine

/-! SUPPORT. The answers of a request that the common checks refuse, and RENEW (R62); with O29. -/
namespace Sys2Proof.Machine

/-! ### Requests that are answered -/

/-- R156, R157: the request at the head of the intake list, taken and completed. -/
theorem State.taken_complete {s : State} {f : Frame} (rest : List Frame) (hopen : f.tag ∈ s.link.openTags)
    (r : Record) : (s.taken rest).complete f.tag r = s.answered f rest r :=
  State.complete_of_open (s := s.taken rest) hopen r

/-- R158: a request that fails the common checks completes with the status of the first that fails. -/
theorem exec_of_refused {s : State} {k : ReqCode} {f : Frame} {rest : List Frame} {st : Status}
    (h : s.Finds k f rest) (hst : s.commonCheck k f = some st) :
    exec (requestCommand k) s = .next (s.answered f rest (emptyRecord f st.byte)) := by
  have hcheck : (s.setLink { s.link with intake := rest }).commonCheck k f = some st :=
    (s.commonCheck_taken rest k f).trans hst
  rw [exec_requestCommand, State.whenRunning, h.running, ← State.taken_complete rest h.opened]
  simp only [State.takeRequest, h.head, h.code, decodeReqCode_encode, if_true, hcheck]
  rfl

/-- R158, check 1: a request that defines no flag has all of them 0. -/
theorem flagsOk_iff {k : ReqCode} (hk : definesFlag k = false) (f : Frame) : flagsOk k f = true ↔ f.flags = 0 := by
  have hbits : ∀ b : Byte, (b &&& 0xFE == 0) = true ∧ b.getLsbD 0 = false ↔ b = 0 := by decide
  simpa [flagsOk, hk, Frame.flag0] using hbits f.flags

/-- R137: RENEW is admitted in READY and in SERVICE. -/
theorem admitted_renew_iff (d : DeviceState) (hold : Bool) :
    admitted d .renew hold = true ↔ d = .ready ∨ d = .service := by
  cases d with
  | failed cause => cases cause <;> simp [admitted, admittedAlways]
  | starting | unformatted | formatting | ready | service =>
    simp [admitted, admittedAlways, admittedUnformatted, admittedReady, admittedService]

/-! ### RENEW -/

/-- R62, R158: the common checks of a RENEW, in order. -/
theorem State.commonCheck_renew (s : State) (f : Frame) : s.commonCheck .renew f =
    if f.flags ≠ 0 then some .badRequest
    else if ¬ (s.device = .ready ∨ s.device = .service) then some .wrongState
    else none := by
  have hflags := flagsOk_iff (k := .renew) rfl f
  have hadmitted := admitted_renew_iff s.device f.flag0
  simp only [State.commonCheck, State.argumentCheck, Bool.not_eq_true', ← Bool.not_eq_true, hflags, hadmitted]

/-- R62: RENEW of a current handle. -/
theorem renewEffect_of_entry {s : State} {f : Frame} {rest : List Frame} {i : Fin 64} {e : HoldEntry}
    (hopen : f.tag ∈ s.link.openTags) (he : (s.holds[i]).entry = some e)
    (hh : f.argA = BitVec.ofNat 16 (i.val * 256 + e.sequence.toNat)) :
    renewEffect f (s.taken rest) =
      (s.answered f rest (renewRecord f.tag e.unit s.tick s.params.tHold)).setHolds (s.holds.set i
        ⟨(s.holds[i]).seq, some { e with start := s.tick, lifetime := s.params.tHold }⟩) := by
  have hcur : (s.taken rest).currentHandle f.argA = some (i, e) := State.currentHandle_of_entry he hh
  simp only [renewEffect, hcur]
  exact State.complete_of_open (s := (s.taken rest).setHolds _) hopen _

/-- R62: RENEW of a handle that is no entry's. -/
theorem renewEffect_stale {s : State} {f : Frame} {rest : List Frame} (hopen : f.tag ∈ s.link.openTags)
    (hno : ∀ (i : Fin 64) (e : HoldEntry), (s.holds[i]).entry = some e →
      f.argA ≠ BitVec.ofNat 16 (i.val * 256 + e.sequence.toNat)) :
    renewEffect f (s.taken rest) = s.answered f rest (plainRecord f.tag f.code .staleHold) := by
  have hcur : (s.taken rest).currentHandle f.argA = none :=
    State.currentHandle_eq_none fun i e he hh => hno i e he (by rw [← hh, BitVec.ofNat_toNat, BitVec.setWidth_eq])
  simp only [renewEffect, hcur]
  exact State.taken_complete rest hopen _

/-- Settles O29: the common checks in order, then the two outcomes of the handle. -/
theorem renewRestartsTheLifetime : Obligations.RenewRestartsTheLifetime := by
  intro s f rest h
  have hcheck := s.commonCheck_renew f
  refine ⟨fun hflags => ?_, fun hflags hready hservice => ?_, fun hflags hdevice => ?_,
    deadlinePassed_after s.tick s.params.tHold.toNat⟩
  · exact exec_of_refused h (st := .badRequest) (by rw [hcheck, if_pos hflags])
  · exact exec_of_refused h (st := .wrongState) (by simp [hcheck, hflags, hready, hservice])
  · have hexec : exec .renew s = .next (renewEffect f (s.taken rest)) :=
      exec_of_passes ⟨h, by simp [hcheck, hflags, hdevice]⟩
    rw [hexec]
    refine ⟨fun i e he hh => ?_, fun hno => ?_⟩
    · rw [renewEffect_of_entry h.opened he hh]; rfl
    · rw [renewEffect_stale h.opened hno]; rfl

end Sys2Proof.Machine

/-! SUPPORT. The removal of a hold and the trigger behind it (R59, R60, R111), by RELEASE and by expiry (R61, R63, R64);
with O27 and O28. -/
namespace Sys2Proof.Machine

/-! ### The automatic checkpoint -/

/-- R111: the test of a unit that has gone through unit release starts an automatic checkpoint exactly when it is due. -/
theorem State.testTrigger_iff {s s1 : State} {g : Nat} (hdevice : s1.device = s.device) (hparams : s1.params = s.params)
    (hckpt : s1.ckpt = s.ckpt) (hchannels : s1.channels = s.channels) :
    (s1.stateOf g = some .waiting ∧ s1.autoTriggers = true) ↔ AutoDue s s1 g := by
  have hslot : s1.slotChannel s1.targetSlot = s.slotChannel s.targetSlot := by
    simp [State.slotChannel, State.slotUnit, State.counts, State.targetSlot, hckpt, hchannels]
  simp [State.autoTriggers, AutoDue, State.online, hslot, hdevice, hparams, hckpt, hchannels, and_assoc]

theorem State.testTrigger_of_due {s : State} {g : Nat} (hst : s.stateOf g = some .waiting)
    (hauto : s.autoTriggers = true) : s.testTrigger g = s.startCheckpoint .auto := by
  obtain ⟨u, hu, hwait⟩ := Option.map_eq_some_iff.1 hst
  simp [State.testTrigger, hu, hwait, UnitState.isWaiting, hauto]

theorem State.testTrigger_of_not_due {s : State} {g : Nat}
    (h : ¬ (s.stateOf g = some .waiting ∧ s.autoTriggers = true)) : s.testTrigger g = s := by
  unfold State.testTrigger
  split
  · next u hu =>
    refine if_neg fun hboth => h ?_
    simpa [State.stateOf, hu, UnitState.isWaiting] using hboth
  · rfl

/-- R98: a snapshot is of the units, the map, the parameters, the geometry and the durable generation. -/
theorem State.takeSnapshot_of_tables {s t : State} (k : Slot) (hunits : t.units = s.units) (hmap : t.map = s.map)
    (hparams : t.params = s.params) (hcounts : t.counts = s.counts)
    (hgen : t.ckpt.durableGen = s.ckpt.durableGen) : t.takeSnapshot k = s.takeSnapshot k := by
  simp [State.takeSnapshot, hunits, hmap, hparams, hcounts, hgen]

/-- An image operation that waits changes no unit count. -/
theorem State.setPendingImage_counts (s : State) (c : Fin 4) (w : Option ImageWork) :
    (s.setPendingImage c w).counts = s.counts := by
  refine Vector.ext fun j hj => ?_
  simp only [State.counts, State.setPendingImage, State.setChannel, State.setChannels_channels, Vector.getElem_map,
    Vector.getElem_set]
  split
  · next hc => subst hc; rfl
  · rfl

/-- R111: whether a checkpoint is due depends on the unit table alone, of all that a unit release has changed. -/
theorem AutoDue.of_units {s t t' : State} {g : Nat} (hunits : t'.units = t.units) :
    AutoDue s t' g ↔ AutoDue s t g := by
  simp [AutoDue, State.stateOf, State.unit?, State.commitWait, State.unitsWhere, hunits]

/-- R96, R98, R111: what the test leaves of the checkpoint unit and the channels, where the changes before it touched
neither. -/
theorem State.autoCheckpoint_testTrigger {s s1 : State} (g : Nat) (hdevice : s1.device = s.device)
    (hparams : s1.params = s.params) (hckpt : s1.ckpt = s.ckpt) (hchannels : s1.channels = s.channels) :
    AutoCheckpoint s (s1.testTrigger g) g := by
  have hiff := State.testTrigger_iff (g := g) hdevice hparams hckpt hchannels
  have hdue : AutoDue s (s1.testTrigger g) g ↔ AutoDue s s1 g := AutoDue.of_units (by simp)
  refine ⟨fun h => ?_, fun h => ?_⟩
  · obtain ⟨hst, hauto⟩ := hiff.2 (hdue.1 h)
    have hrun := (State.testTrigger_of_due hst hauto).trans
      (s1.startCheckpoint_online .auto (s1.autoTriggers_online hauto))
    have hsnap : (s1.testTrigger g).takeSnapshot s.targetSlot = s1.takeSnapshot s.targetSlot := by
      rw [hrun]
      exact State.takeSnapshot_of_tables _ (by simp) (by simp) (by simp) (State.setPendingImage_counts _ _ _) (by simp)
    have htarget : s1.targetSlot = s.targetSlot := by simp [State.targetSlot, hckpt]
    have hunit (k : Slot) : s1.slotUnit k = s.slotUnit k := by simp [State.slotUnit, State.counts, hchannels]
    rw [hsnap, hrun]
    simp [State.setPendingImage, State.setChannel, State.slotChannel, State.slotIndex, htarget, hunit, hckpt, hchannels]
  · rw [State.testTrigger_of_not_due fun hboth => h (hdue.2 (hiff.1 hboth))]
    exact ⟨hckpt, hchannels⟩

theorem AutoCheckpoint.of_tables {s t t' : State} {g : Nat} (h : AutoCheckpoint s t g) (hunits : t'.units = t.units)
    (hmap : t'.map = t.map) (hparams : t'.params = t.params) (hckpt : t'.ckpt = t.ckpt)
    (hchannels : t'.channels = t.channels) : AutoCheckpoint s t' g := by
  obtain ⟨hdue, hnot⟩ := h
  have hsnap (k : Slot) : t'.takeSnapshot k = t.takeSnapshot k :=
    State.takeSnapshot_of_tables k hunits hmap hparams (by simp [State.counts, hchannels]) (by rw [hckpt])
  rw [AutoCheckpoint, AutoDue.of_units hunits, hsnap, hckpt, hchannels]
  exact ⟨hdue, hnot⟩

/-! ### The unit of a hold -/

/-- R59, R31: what the law of the tables says of a unit that carries a hold: it stands in no erase queue, and it is not
marked when it is DRAINING. -/
structure UnitRec.Held (u : UnitRec) : Prop where
  holds : 0 < u.holds
  notDirty : u.state ≠ .dirty
  unmarked : u.state = .draining → u.retirePending = false

/-- R59: a unit that an entry of the hold table names has a record and carries a hold. -/
theorem State.held_of_entry {s : State} (hlaw : s.lawful = true) {i : Fin 64} {e : HoldEntry}
    (he : (s.holds[i]).entry = some e) : ∃ u, s.unit? e.unit = some u ∧ u.Held := by
  obtain ⟨hkeys, -, -, -, -, hholds, -⟩ := s.lawful_iff.1 hlaw
  simp only [State.holdsLawful, Bool.and_eq_true, List.all_eq_true] at hholds
  obtain ⟨hunits, hentries⟩ := hholds
  have hslot : s.holds[i] ∈ s.holds.toList := by simp
  have hsome := hentries _ hslot
  simp only [he] at hsome
  obtain ⟨u, hu⟩ := Option.isSome_iff_exists.1 hsome
  obtain ⟨hcount, hstate⟩ := hunits (e.unit, u) ((mem_iff_unitIn (State.keys_nodup hkeys) e.unit u).2 hu)
  have hpos : 0 < s.holdsOf e.unit :=
    List.length_pos_of_mem (List.mem_filter.2 ⟨hslot, by simp only [HoldSlot.names, he, beq_self_eq_true]⟩)
  have hholds : 0 < u.holds := by
    simp only [decide_eq_true_eq] at hcount
    exact hcount ▸ hpos
  refine ⟨u, hu, hholds, fun hst => ?_, fun hst => ?_⟩
  · have hzero : u.holds = 0 ∧ u.retirePending = false := by simpa [hst] using hstate
    omega
  · have hmark : u.holds ≠ 0 ∧ u.retirePending = false := by simpa [hst] using hstate
    exact hmark.2

/-! ### The removal of a hold -/

/-- R60: the entry has left its slot and its unit's count has fallen by one. -/
def State.dropHold (s : State) (i : Fin 64) (e : HoldEntry) : State :=
  (s.setHolds (s.holds.set i ⟨(s.holds[i]).seq, none⟩)).modifyUnit e.unit fun u => { u with holds := u.holds - 1 }

theorem State.unit?_dropHold (s : State) (i : Fin 64) (e : HoldEntry) (x : Nat) : (s.dropHold i e).unit? x =
    if x = e.unit then (s.unit? e.unit).map fun u => { u with holds := u.holds - 1 } else s.unit? x :=
  (s.setHolds _).unit?_modifyUnit e.unit x _

theorem State.unit?_dropHold_self {s : State} {e : HoldEntry} {u : UnitRec} (i : Fin 64)
    (hu : s.unit? e.unit = some u) : (s.dropHold i e).unit? e.unit = some { u with holds := u.holds - 1 } := by
  rw [State.unit?_dropHold, if_pos rfl, hu]; rfl

/-- R60: a DRAINING unit that has lost its last hold goes through unit release. -/
theorem State.removeHold_of_some {s : State} {i : Fin 64} {e : HoldEntry} {u : UnitRec} (hu : s.unit? e.unit = some u)
    (hheld : u.Held) : s.removeHold i e =
      if u.state = .draining ∧ u.holds = 1 then (s.dropHold i e).releaseUnit e.unit else s.dropHold i e := by
  have hdrop := State.unit?_dropHold_self i hu
  have hpos := hheld.holds
  have hlast : (u.state.isDraining && u.holds - 1 == 0) = true ↔ u.state = .draining ∧ u.holds = 1 := by
    simp only [UnitState.isDraining, Bool.and_eq_true, decide_eq_true_eq, beq_iff_eq]
    exact and_congr_right fun _ => by omega
  rw [State.dropHold] at hdrop
  simp only [State.removeHold, hdrop, hlast]
  rfl

/-- R60, R29, R36: the unit table and the erase queues after the removal. -/
theorem State.holdGone_removeHold {s : State} {i : Fin 64} {e : HoldEntry} {u : UnitRec}
    (hu : s.unit? e.unit = some u) (hheld : u.Held) : HoldGone s (s.removeHold i e) e.unit := by
  have hdrop := State.unit?_dropHold_self i hu
  rw [State.removeHold_of_some hu hheld]
  by_cases hlast : u.state = .draining ∧ u.holds = 1
  · rw [if_pos hlast]
    refine ⟨fun v hv => ?_, fun x hx => ?_, ?_⟩
    · obtain rfl : u = v := Option.some.inj (hu.symm.trans hv)
      rw [State.unit?_releaseUnit hdrop, if_pos rfl, if_pos hlast, hlast.2]
      rfl
    · rw [State.unit?_releaseUnit hdrop, if_neg hx, State.unit?_dropHold, if_neg hx]
    · exact State.joinsTail_releaseUnit hdrop
  · rw [if_neg hlast]
    refine ⟨fun v hv => ?_, fun x hx => ?_, ?_⟩
    · obtain rfl : u = v := Option.some.inj (hu.symm.trans hv)
      rw [hdrop, if_neg hlast]
    · rw [State.unit?_dropHold, if_neg hx]
    · rw [JoinsTail, if_neg]
      · rfl
      · simpa [State.stateOf, hdrop] using hheld.notDirty

/-- R60: a hold's removal is silent and counts nothing. -/
theorem State.removeHold_silent {s : State} {i : Fin 64} {e : HoldEntry} {u : UnitRec} (hu : s.unit? e.unit = some u)
    (hheld : u.Held) : (s.removeHold i e).link = s.link ∧ (s.removeHold i e).counters = s.counters := by
  have hdrop := State.unit?_dropHold_self i hu
  rw [State.removeHold_of_some hu hheld]
  split
  · next hlast => exact State.releaseUnit_silent hdrop (hheld.unmarked hlast.1)
  · exact ⟨rfl, rfl⟩

theorem HoldGone.of_tables {s t t' : State} {g : Nat} (h : HoldGone s t g) (hunits : t'.units = t.units)
    (hqueues : t'.eraseQueues = t.eraseQueues) : HoldGone s t' g := by
  obtain ⟨hunit, hother, hjoins⟩ := h
  refine ⟨fun u hu => (State.unit?_of_units hunits g).trans (hunit u hu),
    fun x hx => (State.unit?_of_units hunits x).trans (hother x hx), ?_⟩
  rw [JoinsTail, hqueues, State.stateOf, State.unit?_of_units hunits g]
  exact hjoins

/-! ### Expiry and RELEASE -/

/-- R54, R63: the expiry of an entry whose deadline has passed. -/
theorem exec_holdExpiry {s : State} {i : Fin 64} {e : HoldEntry} (hrun : s.resetLow = false)
    (he : (s.holds[i]).entry = some e) (hpassed : e.lifetime.toNat ≤ (s.tick - e.start).toNat) :
    exec (.holdExpiry i) s = .next (s.expireHold i e) := by
  have hdeadline : deadlinePassed s.tick e.start e.lifetime.toNat = true := decide_eq_true hpassed
  simp only [exec, execHoldExpiry, State.whenRunning, hrun, he, hdeadline]
  rfl

/-- Settles O27: the removal, the test of the trigger, the count and the notice, in order. -/
theorem holdExpiryRemovesTheEntry : Obligations.HoldExpiryRemovesTheEntry := by
  intro s i e hrun hlaw he hpassed
  obtain ⟨u, hu, hheld⟩ := State.held_of_entry hlaw he
  obtain ⟨hlink, hcounters⟩ := State.removeHold_silent (i := i) hu hheld
  let s1 := (s.removeHold i e).testTrigger e.unit
  have hauto : AutoCheckpoint s s1 e.unit :=
    State.autoCheckpoint_testTrigger e.unit (by simp) (by simp) (by simp) (by simp)
  refine ⟨(s1.count .holdsExpired).post .holdExpired (holdExpiredNotice i e), exec_holdExpiry hrun he hpassed,
    by simp [State.SameControl, s1], by simp [s1, State.removeHold_holds],
    (State.holdGone_removeHold (i := i) hu hheld).of_tables (by simp [s1]) (by simp [s1]),
    hauto.of_tables (by simp) (by simp) (by simp) (by simp) (by simp),
    by simp [s1], by simp [s1], by simp [s1], ?_, fun k hk => ?_⟩
  · have hlink1 : (s1.count .holdsExpired).link = s.link := by simp [s1, hlink]
    rw [State.post_link, hlink1, holdExpiredNotice, handleOf_eq_ofNat]
    rfl
  · rw [State.post_counter _ _ _ hk, State.counter_count,
      State.counter_of_counters (s := s) (by simp [s1, hcounters])]
    cases k <;> simp

/-- R57, R61: RELEASE of a current handle. -/
theorem exec_release {s : State} {f : Frame} {rest : List Frame} {i : Fin 64} {e : HoldEntry}
    (hp : s.Passes .release f rest) (he : (s.holds[i]).entry = some e)
    (hh : f.argA = BitVec.ofNat 16 (i.val * 256 + e.sequence.toNat)) :
    exec .release s = .next ((s.taken rest).releaseHold f i e) := by
  have hcur : (s.taken rest).currentHandle f.argA = some (i, e) := State.currentHandle_of_entry he hh
  refine (exec_of_passes hp).trans ?_
  simp only [effectOf, releaseEffect, hcur]

/-- Settles O28: the removal, the answer and the test of the trigger, in order. -/
theorem releaseEndsTheHold : Obligations.ReleaseEndsTheHold := by
  intro s f rest i e hp hlaw he hh
  obtain ⟨u, hu, hheld⟩ := State.held_of_entry hlaw he
  let s1 := (s.taken rest).removeHold i e
  obtain ⟨hlink, hcounters⟩ : s1.link = (s.taken rest).link ∧ s1.counters = s.counters :=
    State.removeHold_silent (s := s.taken rest) hu hheld
  have hgone : HoldGone s s1 e.unit := State.holdGone_removeHold (s := s.taken rest) hu hheld
  have ⟨hunit, _, _⟩ := hgone
  obtain ⟨v, hv⟩ : ∃ v, s1.unit? e.unit = some v := ⟨_, hunit u hu⟩
  let r := releaseRecord f.tag e v.state.byte v.holds
  have hopen : f.tag ∈ s1.link.openTags := hlink ▸ hp.opened
  refine ⟨(s1.complete f.tag r).testTrigger e.unit, v, ?_, ?_⟩
  · rw [exec_release hp he hh, State.releaseHold]
    simp only [s1, r, hv]
  · refine ⟨by simp [State.SameControl, s1, State.taken], by simp [s1, State.removeHold_holds, State.taken],
      hgone.of_tables (by simp) (by simp), ?_, by simp [s1, State.taken], by simp [s1, State.taken],
      by simp [s1, State.taken], by simp [hcounters], ?_, ?_⟩
    · exact State.autoCheckpoint_testTrigger e.unit (by simp [s1, State.taken]) (by simp [s1, State.taken])
        (by simp [s1, State.taken]) (by simp [s1, State.taken])
    · rw [State.unit?_of_units (s := s1) (by simp), hv]
    · have hlink1 : ((s1.complete f.tag r).testTrigger e.unit).link = s1.link.complete f.tag r := by
        simp [State.complete_of_open hopen]
      rw [hlink1, hlink]
      rfl

end Sys2Proof.Machine

/-! SUPPORT. The relocation engine's starts and abandonments: the record of a logical, MOVE and the abandonment by phase
(R5, R74, R75, R85, R86, R89, R90); with O38 and O19. -/
namespace Sys2Proof.Machine

/-! ### The record of a logical -/

/-- R1, R5: a change of a logical that has a record sets that record. -/
theorem State.modifyLogical_of_some {s : State} {n : Nat} {r : LogicalRec} (hr : s.logical? n = some r)
    (f : LogicalRec → LogicalRec) : s.modifyLogical n f = s.setLogical n (f r) := by
  have hr : s.map[n]? = some r := hr
  simp [State.modifyLogical, State.setLogical, List.modify_eq_set_getElem?, hr]

theorem State.clearMoveRef_of_some {s : State} {n : Nat} {r : LogicalRec} (hr : s.logical? n = some r) :
    s.clearMoveRef n = s.setLogical n { r with move := none } := State.modifyLogical_of_some hr _

theorem State.bindingOf_of_some {s : State} {n : Nat} {r : LogicalRec} (hr : s.logical? n = some r) :
    s.bindingOf n = (r.unit, r.generation) := by simp only [State.bindingOf, hr]

/-! ### MOVE -/

/-- R74: what the start of a move changes. -/
theorem State.startMove_of_some {s : State} {n : Nat} {r : LogicalRec} (hr : s.logical? n = some r) (g t : Nat)
    (o : MoveOrigin) : s.startMove n g t o = { s with
      units := modifyIn s.units t fun v => ⟨.target n, v.wear, 0, false⟩
      moves := s.moves.set (chanOf g) (some ⟨n, g, t, o, .assigned, s.tick⟩)
      map := s.map.set n { r with move := some (chanOf g) } } :=
  State.modifyLogical_of_some (s := (s.modifyUnit t _).setMove (chanOf g) _) hr _

/-- R75: a MOVE that meets none of its refusals starts the move. -/
theorem moveEffect_starts {s : State} {f : Frame} {r : LogicalRec} {g t : Nat} {u : UnitRec}
    (hr : s.logical? f.number = some r) (hg : r.unit = some g) (hmove : r.move = none)
    (hplace : s.moves[chanOf g] = none) (hon : s.online (chanOf g) = true) (hu : s.unit? g = some u)
    (hholds : u.holds = 0) (ht : s.leastWornFree (chanOf g) = some t) :
    moveEffect f s = (s.startMove f.number g t (.host f.tag)).settle none := by
  have hplace : s.moves[(chanOf g).val] = none := hplace
  simp [moveEffect, hr, hg, hmove, hplace, hon, hu, hholds, ht]

/-- Settles O38: the request passes the checks of R75 one by one, and the move of R74 starts. -/
theorem hostMoveStarts : Obligations.HostMoveStarts := by
  intro s f rest r g t u hp hkeys hr hg hmove hplace hon hu hholds ht
  have hlog : (s.taken rest).logical? f.number = some r := hr
  have hstart := moveEffect_starts hlog hg hmove hplace ((s.online_iff _).2 hon) hu hholds
    ((State.leastWornFree_iff hkeys _ t).2 ht)
  rw [State.startMove_of_some hlog] at hstart
  exact (exec_of_passes hp).trans (congrArg _ hstart)

/-! ### The abandonment of a move -/

section
variable {s : State} {n : Nat} {r : LogicalRec} {c : Fin 4} {m : Move} (hr : s.logical? n = some r)
include hr

theorem State.abandonMove_of_no_move (hmove : r.move = none) (after : Option Nat × Word16) :
    s.abandonMove n after = (s, []) := by
  simp only [State.abandonMove, hr, hmove]

/-- R85: an ASSIGNED move leaves the list, and its target returns to the free pool. -/
theorem State.abandonMove_assigned (hmove : r.move = some c) (hm : s.moves[c] = some m) (hph : m.phase = .assigned)
    (after : Option Nat × Word16) : s.abandonMove n after =
      (((s.setLogical n { r with move := none }).setUnitState m.target .free).endMove c m .moveAbandoned .none after,
        [c]) := by
  simp only [State.abandonMove, hr, hmove, hm, hph, State.clearMoveRef_of_some hr]

/-- R86: the COPY of a COPYING move goes on, and the move is ABANDONING. -/
theorem State.abandonMove_copying (hmove : r.move = some c) (hm : s.moves[c] = some m) (hph : m.phase = .copying)
    (after : Option Nat × Word16) : s.abandonMove n after =
      ((s.setLogical n { r with move := none }).setMove c (some { m with phase := .abandoning }), []) := by
  simp only [State.abandonMove, hr, hmove, hm, hph, State.clearMoveRef_of_some hr]

end

/-- R90: a leveling or an evacuation move that did not commit posts MOVE_RESULT, with the kind of its origin. -/
theorem State.reportMove_device {s : State} {c : Fin 4} {m : Move} {st : Status} (why : MoveReason)
    (after : Option Nat × Word16) (ho : m.origin = .leveling ∨ m.origin = .evacuation) :
    s.reportMove c m st why after = if st = .ok then s else
      s.post .moveResult (moveResultNotice m (if m.origin = .leveling then 1 else 2) st why) := by
  obtain ho | ho := ho <;> simp [State.reportMove, ho]

/-- Settles O19: the abandonment phase by phase, and the report origin by origin. -/
theorem abandonmentFollowsThePhase : Obligations.AbandonmentFollowsThePhase := by
  refine ⟨fun s n r after hr => ⟨fun hmove => State.abandonMove_of_no_move hr hmove after,
    fun c m hmove hm => ⟨fun hph => ?_, fun hph => ?_⟩⟩, fun s c m st why after => ⟨fun t ho => ?_, fun ho => ?_,
    fun ho hst => ?_, fun ho hst => ?_⟩⟩
  · rw [State.abandonMove_assigned hr hmove hm hph]; rfl
  · rw [State.abandonMove_copying hr hmove hm hph]; rfl
  · simp only [State.reportMove, ho]
  · simp only [State.reportMove, ho]
  · rw [State.reportMove_device why after ho, if_pos hst]
  · rw [State.reportMove_device why after ho, if_neg hst]; rfl

end Sys2Proof.Machine

/-! SUPPORT. The leveling monitor: the selections of R77 and R78 as the searches of the model make them (R34, R76); with
O39. -/
namespace Sys2Proof.Machine

/-! ### Movable units -/

theorem State.movableOwner_iff (s : State) (u : UnitRec) (n : Nat) : s.movableOwner u = some n ↔
    u.state = .bound n ∧ u.holds = 0 ∧ ∃ r, s.logical? n = some r ∧ r.move = none := by
  obtain ⟨st, wear, holds, mark⟩ := u
  cases st with
  | free | dirty | erasing | target | draining | waiting | retired => simp [State.movableOwner]
  | bound k =>
    by_cases hh : holds = 0
    · cases hr : s.logical? k with
      | none =>
        have hno : ¬ (k = n ∧ ∃ r, s.logical? n = some r ∧ r.move = none) := by
          rintro ⟨rfl, r, hr', -⟩; simp [hr] at hr'
        simp [State.movableOwner, hh, hr, hno]
      | some r =>
        simp only [State.movableOwner, hh, hr, if_true, UnitState.bound.injEq, true_and]
        constructor
        · intro h
          split at h
          · next hmove => cases h; exact ⟨rfl, r, hr, by simpa using hmove⟩
          · cases h
        · rintro ⟨rfl, r', hr', hmove⟩
          obtain rfl : r = r' := Option.some.inj (hr.symm.trans hr')
          simp [hmove]
    · simp [State.movableOwner, hh]

theorem State.movable_iff (s : State) (c : Fin 4) (g : Nat) (u : UnitRec) (n : Nat) :
    s.Movable c g u n ↔ s.unit? g = some u ∧ chanOf g = c ∧ s.movableOwner u = some n := by
  rw [State.movableOwner_iff, State.Movable]

theorem State.Movable.owner {s : State} {c : Fin 4} {g : Nat} {u : UnitRec} {n : Nat} (h : s.Movable c g u n) :
    s.movableOwner u = some n := by
  obtain ⟨-, -, howner⟩ := (s.movable_iff c g u n).1 h
  exact howner

section
variable {s : State} (h : s.keysLawful = true)
include h

theorem State.mem_movableUnits (c : Fin 4) (g : Nat) (u : UnitRec) :
    (g, u) ∈ s.movableUnits c ↔ ∃ n, s.Movable c g u n := by
  rw [State.movableUnits, List.mem_filter, mem_iff_unitIn (State.keys_nodup h)]
  simp [State.movable_iff, State.unit?, Option.isSome_iff_exists]

theorem State.movableUnits_ascending (c : Fin 4) : ((s.movableUnits c).map (·.1)).Pairwise (· < ·) :=
  (State.keys_ascending h).sublist (List.filter_sublist.map _)

/-! ### Evacuation (R77) -/

theorem State.evacuationSource_some {c : Fin 4} {b : Nat} {u : UnitRec} (hb : s.evacuationSource c = some (b, u)) :
    (∃ n, s.Movable c b u n) ∧ u.retirePending = true ∧
      ∀ x v m, s.Movable c x v m → v.retirePending = true → b ≤ x := by
  refine ⟨(State.mem_movableUnits h c b u).1 (List.mem_of_find?_eq_some hb), by simpa using List.find?_some hb,
    fun x v m hx hv => ?_⟩
  have hin : (x, v) ∈ s.movableUnits c := (State.mem_movableUnits h c x v).2 ⟨m, hx⟩
  obtain he | hlt := find?_before (List.pairwise_map.1 (State.movableUnits_ascending h c)) hb hin hv
  · exact (congrArg Prod.fst he).ge
  · exact hlt.le

/-- R77: the search finds the lowest-numbered marked movable unit. -/
theorem State.evacuationSource_of_lowest {c : Fin 4} {b n : Nat} {u : UnitRec} (hb : s.Movable c b u n)
    (hu : u.retirePending = true) (hlow : ∀ x v m, s.Movable c x v m → v.retirePending = true → b ≤ x) :
    s.evacuationSource c = some (b, u) := by
  cases hs : s.evacuationSource c with
  | none =>
    have hnot := List.find?_eq_none.1 hs (b, u) ((State.mem_movableUnits h c b u).2 ⟨n, hb⟩)
    exact absurd hu hnot
  | some a =>
    obtain ⟨x, v⟩ := a
    obtain ⟨⟨m, hx⟩, hv, hfirst⟩ := State.evacuationSource_some h hs
    obtain rfl : x = b := Nat.le_antisymm (hfirst b u n hb hu) (hlow x v m hx hv)
    rw [Option.some.inj (hx.1.symm.trans hb.1)]

theorem State.evaluate_of_evacuates {c : Fin 4} {b n t : Nat} (hmay : s.mayEvaluate c = true)
    (hev : s.Evacuates c b n t) : s.evaluate c = s.startMove n b t .evacuation := by
  obtain ⟨⟨u, hb, hu⟩, hlow, ht⟩ := hev
  simp [State.evaluate, hmay, State.evacuationSource_of_lowest h hb hu hlow, (State.leastWornFree_iff h c t).2 ht,
    hb.owner]

/-- R76: leveling is tried when there is nothing to evacuate. -/
theorem State.evaluate_of_not_evacuates {c : Fin 4} (hmay : s.mayEvaluate c = true)
    (hno : ¬∃ b n t, s.Evacuates c b n t) : s.evaluate c = s.level c := by
  cases hs : s.evacuationSource c with
  | none => simp [State.evaluate, hmay, hs]
  | some a =>
    obtain ⟨b, u⟩ := a
    cases ht : s.leastWornFree c with
    | none => simp [State.evaluate, hmay, hs, ht]
    | some t =>
      obtain ⟨⟨n, hb⟩, hu, hlow⟩ := State.evacuationSource_some h hs
      exact absurd ⟨b, n, t, ⟨u, hb, hu⟩, hlow, State.leastWornFree_some h ht⟩ hno

end

/-! ### Leveling (R78) -/

/-- R78: the four conditions, the two units and the wear test. -/
theorem State.levelingPair_iff (s : State) (c : Fin 4) (b f : Nat) (u : UnitRec) :
    s.levelingPair c = some (b, u, f) ↔ (0 < s.params.wSpread.toNat ∧ (s.params.sMin.toNat : Int) ≤ s.spareCount ∧
      2 ≤ (s.freeOn c).length) ∧ ∃ v, s.mostWornFree c = some (f, v) ∧ leastWorn (s.movableUnits c) = some (b, u) ∧
        u.wear.toNat + s.params.wSpread.toNat ≤ v.wear.toNat := by
  unfold State.levelingPair
  split
  · next hcond =>
    split
    · next q p hq hp =>
      simp only [hcond, hq, hp, Option.some.injEq, true_and, and_self]
      constructor
      · intro hpair
        split at hpair
        · next hwear => cases hpair; exact ⟨q.2, rfl, rfl, hwear⟩
        · cases hpair
      · rintro ⟨v, rfl, rfl, hwear⟩
        exact if_pos hwear
    · next hp => simp [hp]
    · next hq => simp [hq]
  · next hcond => simp [hcond]

/-- R34: two units that are each at least as far in wear, ties to the lower number, are one. -/
theorem worn_antisymm {a b : Word16} {g k : Nat} (h : a.toNat < b.toNat ∨ (a = b ∧ g ≤ k))
    (h' : b.toNat < a.toNat ∨ (b = a ∧ k ≤ g)) : g = k := by
  simp only [← BitVec.toNat_inj] at *
  omega

theorem leastWorn_eq_none {l : List (Nat × UnitRec)} (h : leastWorn l = none) : l = [] := by
  cases l with
  | nil => rfl
  | cons p l =>
    rw [leastWorn] at h
    split at h
    · cases h
    · split at h <;> cases h

/-- R78: of a list in ascending number, `leastWorn` takes the least worn, ties to the lowest number. -/
theorem leastWorn_some {l : List (Nat × UnitRec)} {a : Nat × UnitRec} (hl : (l.map (·.1)).Pairwise (· < ·))
    (ha : leastWorn l = some a) : a ∈ l ∧
      ∀ b ∈ l, a.2.wear.toNat < b.2.wear.toNat ∨ (a.2.wear = b.2.wear ∧ a.1 ≤ b.1) := by
  induction l generalizing a with
  | nil => cases ha
  | cons p l ih =>
    obtain ⟨hp, hl⟩ := List.pairwise_cons.1 hl
    have hlow (b) (hb : b ∈ l) : p.1 < b.1 := hp b.1 (List.mem_map_of_mem hb)
    cases hq : leastWorn l with
    | none =>
      obtain rfl := leastWorn_eq_none hq
      obtain rfl : p = a := Option.some.inj ha
      simp
    | some q =>
      obtain ⟨hin, hmin⟩ := ih hl hq
      simp only [leastWorn, hq] at ha
      by_cases hlt : q.2.wear.toNat < p.2.wear.toNat
      · obtain rfl : q = a := Option.some.inj ((if_pos hlt).symm.trans ha)
        exact ⟨.tail _ hin, List.forall_mem_cons.2 ⟨.inl hlt, hmin⟩⟩
      · obtain rfl : p = a := Option.some.inj ((if_neg hlt).symm.trans ha)
        refine ⟨.head _, List.forall_mem_cons.2 ⟨.inr ⟨rfl, le_rfl⟩, fun b hb => ?_⟩⟩
        have hqb := hmin b hb
        have hpb := hlow b hb
        simp only [← BitVec.toNat_inj] at *
        omega

section
variable {s : State} (h : s.keysLawful = true)
include h

theorem State.leastWornMovable_iff (c : Fin 4) (b : Nat) (u : UnitRec) :
    leastWorn (s.movableUnits c) = some (b, u) ↔ (∃ n, s.Movable c b u n) ∧
      ∀ x w m, s.Movable c x w m → u.wear.toNat < w.wear.toNat ∨ (u.wear = w.wear ∧ b ≤ x) := by
  have hspec {a} (ha : leastWorn (s.movableUnits c) = some a) := leastWorn_some (State.movableUnits_ascending h c) ha
  have hmem {x w m} (hx : s.Movable c x w m) := (State.mem_movableUnits h c x w).2 ⟨m, hx⟩
  constructor
  · intro hb
    obtain ⟨hin, hmin⟩ := hspec hb
    exact ⟨(State.mem_movableUnits h c b u).1 hin, fun x w m hx => hmin (x, w) (hmem hx)⟩
  · rintro ⟨⟨n, hb⟩, hmin⟩
    cases hl : leastWorn (s.movableUnits c) with
    | none => exact absurd (hmem hb) (by simp [leastWorn_eq_none hl])
    | some a =>
      obtain ⟨x, w⟩ := a
      obtain ⟨hin, hmin'⟩ := hspec hl
      obtain ⟨m, hx⟩ := (State.mem_movableUnits h c x w).1 hin
      obtain rfl : x = b := worn_antisymm (hmin' (b, u) (hmem hb)) (hmin x w m hx)
      rw [Option.some.inj (hx.1.symm.trans hb.1)]

theorem State.mostWornFree_iff (c : Fin 4) (f : Nat) (v : UnitRec) :
    s.mostWornFree c = some (f, v) ↔ s.FreeUnit c f v ∧
      ∀ x w, s.FreeUnit c x w → w.wear.toNat < v.wear.toNat ∨ (v.wear = w.wear ∧ f ≤ x) := by
  refine ⟨State.mostWornFree_some h, fun ⟨hf, hmax⟩ => ?_⟩
  obtain ⟨hunit, hc, hfree⟩ := hf
  cases hl : s.mostWornFree c with
  | none =>
    have hin : (f, v) ∈ s.units.filter fun p => p.2.state.isFree && (chanOf p.1 == c) :=
      List.mem_filter.2 ⟨(mem_iff_unitIn (State.keys_nodup h) f v).2 hunit, by simp [hfree, hc, UnitState.isFree]⟩
    exact absurd hin (by simp [mostWorn_eq_none hl])
  | some a =>
    obtain ⟨x, w⟩ := a
    obtain ⟨hx, hmax'⟩ := State.mostWornFree_some h hl
    have hfx := (hmax' f v ⟨hunit, hc, hfree⟩).imp_right (And.imp_left Eq.symm)
    have hxf := (hmax x w hx).imp_right (And.imp_left Eq.symm)
    obtain rfl : x = f := worn_antisymm hfx hxf
    rw [Option.some.inj (hx.1.symm.trans hunit)]

theorem State.mem_freeOn (c : Fin 4) (g : Nat) (u : UnitRec) : (g, u) ∈ s.freeOn c ↔ s.FreeUnit c g u := by
  rw [State.freeOn, List.mem_filter, State.mem_freePool h]
  simp [State.FreeUnit, and_comm, and_left_comm, and_assoc]

/-- R78: a channel has two FREE units exactly when two numbers are FREE units of it. -/
theorem State.two_le_freeOn_iff (c : Fin 4) : 2 ≤ (s.freeOn c).length ↔
    ∃ x y v w, x ≠ y ∧ s.FreeUnit c x v ∧ s.FreeUnit c y w := by
  have hmem := State.mem_freeOn h c
  have horder : (s.freeOn c).Pairwise fun p q => poolBefore p q = true := (State.freePool_pairwise h).filter _
  constructor
  · intro hlen
    match hl : s.freeOn c with
    | [] | [_] => simp [hl] at hlen
    | (x, v) :: (y, w) :: l =>
      rw [hl] at horder
      obtain ⟨hbefore, -⟩ := List.pairwise_cons.1 horder
      have hx : s.FreeUnit c x v := (hmem x v).1 (by simp [hl])
      have hy : s.FreeUnit c y w := (hmem y w).1 (by simp [hl])
      refine ⟨x, y, v, w, ?_, hx, hy⟩
      rintro rfl
      obtain rfl : v = w := Option.some.inj (hx.1.symm.trans hy.1)
      have := (poolBefore_iff _ _).1 (hbefore _ (.head _))
      simp at this
  · rintro ⟨x, y, v, w, hne, hx, hy⟩
    match hl : s.freeOn c with
    | [] => exact absurd ((hmem x v).2 hx) (by simp [hl])
    | [p] =>
      have hx : (x, v) = p := by simpa [hl] using (hmem x v).2 hx
      have hy : (y, w) = p := by simpa [hl] using (hmem y w).2 hy
      exact absurd (congrArg Prod.fst (hx.trans hy.symm)) hne
    | _ :: _ :: _ => simp

/-- R78: the pair that the model would move is the spec's. -/
theorem State.levels_iff (c : Fin 4) (b n f : Nat) :
    s.Levels c b n f ↔ ∃ u, s.levelingPair c = some (b, u, f) ∧ s.movableOwner u = some n := by
  simp only [State.levelingPair_iff, State.two_le_freeOn_iff h, State.mostWornFree_iff h, State.leastWornMovable_iff h]
  constructor
  · rintro ⟨hspread, hspare, htwo, u, v, hb, hf, hleast, hmost, hwear⟩
    exact ⟨u, ⟨⟨hspread, hspare, htwo⟩, v, ⟨hf, hmost⟩, ⟨⟨n, hb⟩, hleast⟩, hwear⟩, hb.owner⟩
  · rintro ⟨u, ⟨⟨hspread, hspare, htwo⟩, v, ⟨hf, hmost⟩, ⟨⟨k, hb⟩, hleast⟩, hwear⟩, howner⟩
    obtain ⟨hunit, hc, -⟩ := (s.movable_iff c b u k).1 hb
    exact ⟨hspread, hspare, htwo, u, v, (s.movable_iff c b u n).2 ⟨hunit, hc, howner⟩, hf, hleast, hmost, hwear⟩

theorem State.level_of_levels {c : Fin 4} {b n f : Nat} (hlev : s.Levels c b n f) :
    s.level c = s.startMove n b f .leveling := by
  obtain ⟨u, hpair, howner⟩ := (State.levels_iff h c b n f).1 hlev
  simp only [State.level, hpair, howner]

theorem State.level_of_not_levels {c : Fin 4} (hno : ¬∃ b n f, s.Levels c b n f) : s.level c = s := by
  cases hpair : s.levelingPair c with
  | none => simp only [State.level, hpair]
  | some a =>
    obtain ⟨b, u, f⟩ := a
    cases howner : s.movableOwner u with
    | none => simp only [State.level, hpair, howner]
    | some n => exact absurd ⟨b, n, f, (State.levels_iff h c b n f).2 ⟨u, hpair, howner⟩⟩ hno

end

/-! ### The evaluation -/

theorem State.mayEvaluate_iff (s : State) (c : Fin 4) : s.mayEvaluate c = true ↔
    s.device = .ready ∧ s.channels[c].state = .online ∧ s.moves[c] = none := by
  simp [State.mayEvaluate, State.online, and_assoc]

/-- Settles O39: nothing without the conditions of R76; with them R77's evacuation, and without one R78's leveling. -/
theorem monitorStartsAtMostOneMove : Obligations.MonitorStartsAtMostOneMove := by
  intro s c h looks
  have hmay : s.mayEvaluate c = true ↔ looks := s.mayEvaluate_iff c
  refine ⟨fun hnot => if_neg (mt hmay.1 hnot), fun hlooks => ⟨fun b n t hev => ?_, fun hno b n f hlev => ?_,
    fun hno hlev => ?_⟩⟩
  · exact State.evaluate_of_evacuates h (hmay.2 hlooks) hev
  · exact (State.evaluate_of_not_evacuates h (hmay.2 hlooks) hno).trans (State.level_of_levels h hlev)
  · exact (State.evaluate_of_not_evacuates h (hmay.2 hlooks) hno).trans (State.level_of_not_levels h hlev)

end Sys2Proof.Machine

/-! SUPPORT. The replies to a COPY (R81 to R84): the unit that is let go, the report of the move, and what the law of the
tables says of a move whose COPY is in flight; with O41. -/
namespace Sys2Proof.Machine

/-! ### Counting, step by step -/

theorem Counted.trans {s t t' : State} {f g : Counter → Nat} (h : Counted s t f) (h' : Counted t t' g) :
    Counted s t' fun k => f k + g k := fun k hk => by
  rw [h' k hk, h k hk, BitVec.ofNat_add, BitVec.add_assoc]

theorem Counted.congr {s t : State} {f g : Counter → Nat} (h : Counted s t f) (hfg : ∀ k, f k = g k) :
    Counted s t g := fun k hk => by rw [h k hk, hfg k]

theorem Counted.of_counters_left {s s' t : State} {f : Counter → Nat} (h : Counted s t f)
    (he : s'.counters = s.counters) : Counted s' t f := fun k hk => by
  rw [h k hk, State.counter_of_counters he]

theorem State.count_counted (s : State) (j : Counter) : Counted s (s.count j) fun k => if k = j then 1 else 0 := by
  intro k _
  rw [State.counter_count]
  by_cases h : k = j <;> simp [h]

/-- R89, R177: a move that leaves the list is counted by its outcome. -/
theorem State.endMove_counted (s : State) (c : Fin 4) (m : Move) (st : Status) (why : MoveReason)
    (after : Option Nat × Word16) :
    Counted s (s.endMove c m st why after) fun k => if k = outcomeCounter st then 1 else 0 := by
  intro k hk
  rw [State.endMove, State.reportMove_counter _ _ _ _ _ _ hk]
  exact (s.setMove c none).count_counted (outcomeCounter st) k hk

/-! ### The report of a move -/

section
variable {s : State} {m : Move} (hopen : ∀ tag, m.origin = .host tag → tag ∈ s.link.openTags)
include hopen

/-- R89, R90: a move's outcome as the host link shows it. -/
theorem State.reportMove_link (c : Fin 4) (st : Status) (why : MoveReason) (after : Option Nat × Word16) :
    (s.reportMove c m st why after).link = s.link.moveOutcome c m st why after s.tick := by
  unfold State.reportMove Link.moveOutcome
  cases ho : m.origin with
  | host tag => simp only [State.complete_of_open (hopen tag ho)]; rfl
  | orphaned => rfl
  | leveling | evacuation =>
    dsimp only
    split
    · rfl
    · rw [State.post_link]; rfl

theorem State.endMove_link (c : Fin 4) (st : Status) (why : MoveReason) (after : Option Nat × Word16) :
    (s.endMove c m st why after).link = s.link.moveOutcome c m st why after s.tick :=
  State.reportMove_link (s := (s.setMove c none).count (outcomeCounter st)) hopen c st why after

end

/-- R89, R156: the record of a host's MOVE stands behind all that the claim has placed before it. -/
theorem placedLast_moveOutcome {s t : State} {l : Link} {c : Fin 4} {m : Move} {st : Status} {why : MoveReason}
    {after : Option Nat × Word16} {now : Word32} (hnd : s.link.openTags.Nodup) (hext : s.link.Extends l [])
    (hlink : t.link = l.moveOutcome c m st why after now) (tag : Byte) (ho : m.origin = .host tag) :
    PlacedLast s t tag (moveRecord tag st c m why after now) := by
  have hplaced : t.link = l.complete tag (moveRecord tag st c m why after now) := by
    rw [hlink, Link.moveOutcome]; simp only [ho]; rfl
  have htags : l.openTags = s.link.openTags := hext.tags
  rw [PlacedLast, hplaced]
  exact ⟨hext.queue.trans (List.prefix_append _ _), by simp [Link.complete], by
    simp only [Link.complete, htags]; exact hnd.not_mem_erase⟩

@[simp] theorem State.endMove_moves (s : State) (c : Fin 4) (m : Move) (st : Status) (why : MoveReason)
    (after : Option Nat × Word16) : (s.endMove c m st why after).moves = s.moves.set c none := by
  simp [State.endMove, State.setMove]

/-- R156: the tag of a host's MOVE in the list is open. -/
theorem TagInv.move_open {s : State} (h : TagInv s) {c : Fin 4} {m : Move} (hm : s.moves[c] = some m) (tag : Byte)
    (ho : m.origin = .host tag) : tag ∈ s.link.openTags := by
  have hin : some m ∈ s.moves.toList := by rw [← hm]; simp
  have htag : tag ∈ s.moves.toList.flatMap fun m => (m.map fun m => m.origin.tag).getD [] :=
    List.mem_flatMap.2 ⟨some m, hin, by simp [ho, MoveOrigin.tag]⟩
  refine h.held.mem_iff.1 ?_
  simp only [State.heldTags, List.mem_append]
  exact .inl (.inl (.inl (.inr htag)))

/-! ### A unit that is let go -/

theorem Link.letGo_extends (l : Link) (marked : Bool) (g : Nat) (spare : Int) (sMin : Word16) :
    l.Extends (l.letGo marked g spare sMin) [] := by
  unfold Link.letGo
  split
  · exact l.retirement_extends g .host spare sMin
  · exact .refl l

section
variable {s : State} {g : Nat} {u : UnitRec} (hu : s.unit? g = some u)
include hu

/-- R29, R44: unit release on the link. -/
theorem State.releaseUnit_link (hkeys : s.keysLawful = true) (hlive : ∀ c, u.state ≠ .retired c) :
    (s.releaseUnit g).link = s.link.letGo u.retirePending g (s.spareCount - 1) s.params.sMin := by
  cases hm : u.retirePending with
  | true =>
    rw [State.releaseUnit_marked hu hm, State.retireUnit_link, State.retireUnit_spareCount .host hkeys hu hlive]; rfl
  | false => exact (State.releaseUnit_silent hu hm).1

theorem State.releaseUnit_counted : Counted s (s.releaseUnit g) fun k =>
    if k = .retirements ∧ u.retirePending = true then 1 else 0 := by
  cases hm : u.retirePending with
  | true =>
    rw [State.releaseUnit_marked hu hm]
    exact (s.retireUnit_counted g .host).congr fun k => by cases k <;> rfl
  | false => exact fun k _ => by simp [State.counter_of_counters (State.releaseUnit_silent hu hm).2]

/-- R45: the two outcomes of a unit that a COPY may have written. -/
theorem State.discardToTail_of_some : s.discardToTail g =
    if u.retirePending then s.retireUnit g .host else s.dirtyTail g := by
  simp only [State.discardToTail, hu]

theorem State.unit?_discardToTail (x : Nat) :
    (s.discardToTail g).unit? x = if x = g then some (discarded u) else s.unit? x := by
  obtain ⟨st, wear, holds, mark⟩ := u
  rw [State.discardToTail_of_some hu]
  cases mark with
  | true => simp [State.unit?_retireUnit, hu, discarded, UnitRec.retire]
  | false => simp [State.unit?_dirtyTail, hu, discarded]

theorem State.joinsTail_discardToTail : JoinsTail s (s.discardToTail g) g := by
  have hst : (s.discardToTail g).stateOf g = some (discarded u).state := by
    simp [State.stateOf, State.unit?_discardToTail hu]
  rw [JoinsTail, hst, State.discardToTail_of_some hu]
  cases hm : u.retirePending with
  | true => simp [discarded, hm]
  | false => simp [discarded, hm, State.dirtyTail_eraseQueues]

theorem State.discardToTail_link (hkeys : s.keysLawful = true) (hlive : ∀ c, u.state ≠ .retired c) :
    (s.discardToTail g).link = s.link.letGo u.retirePending g (s.spareCount - 1) s.params.sMin := by
  rw [State.discardToTail_of_some hu]
  cases hm : u.retirePending with
  | true => rw [if_pos rfl, State.retireUnit_link, State.retireUnit_spareCount .host hkeys hu hlive]; rfl
  | false => simp [Link.letGo]

theorem State.discardToTail_counted : Counted s (s.discardToTail g) fun k =>
    if k = .retirements ∧ u.retirePending = true then 1 else 0 := by
  rw [State.discardToTail_of_some hu]
  cases hm : u.retirePending with
  | true => exact (s.retireUnit_counted g .host).congr fun k => by cases k <;> rfl
  | false => exact fun k _ => by simp [State.counter]

end

theorem JoinsTail.of_tables {s t t' : State} {g : Nat} (h : JoinsTail s t g) (hunits : t'.units = t.units)
    (hqueues : t'.eraseQueues = t.eraseQueues) : JoinsTail s t' g := by
  rw [JoinsTail, hqueues, State.stateOf, State.unit?_of_units hunits g]
  exact h

/-! ### The end of the operation in flight -/

@[simp] theorem State.endOp_channels (s : State) (c : Fin 4) :
    (s.endOp c).channels = s.channels.set c { s.channels[c] with inFlight := none } := rfl

/-- A change of one channel's operation in flight leaves what is read of its state and its count. -/
theorem State.endOp_read {α : Type} (s : State) (c : Fin 4) (p : Channel → α)
    (hp : ∀ ch : Channel, p { ch with inFlight := none } = p ch) :
    (s.endOp c).channels.map p = s.channels.map p := by
  refine Vector.ext fun j hj => ?_
  simp only [State.endOp_channels, Vector.getElem_map, Vector.getElem_set]
  split
  · next hc => subst hc; exact hp _
  · rfl

@[simp] theorem State.endOp_counts (s : State) (c : Fin 4) : (s.endOp c).counts = s.counts :=
  s.endOp_read c Channel.unitCount fun _ => rfl

theorem State.spareCount_of_counts {s t : State} (hcounts : t.counts = s.counts)
    (hretired : t.retiredSet.length = s.retiredSet.length) (hmap : t.map.length = s.map.length) :
    t.spareCount = s.spareCount := by
  simp [State.spareCount, State.presentUnits, hcounts, hretired, hmap]

@[simp] theorem State.endOp_spareCount (s : State) (c : Fin 4) : (s.endOp c).spareCount = s.spareCount :=
  State.spareCount_of_counts (s.endOp_counts c) (by simp [State.retiredSet, State.unitsWhere]) (by simp)

theorem State.keysLawful_iff (s : State) : s.keysLawful = true ↔ (s.units.map (·.1)).Pairwise (· < ·) ∧
    (∀ g ∈ s.units.map (·.1), g < 4096) ∧ ∀ (i : Nat) (_ : i < 4), (s.channels.map (·.count))[i] ≤ 1024 := by
  simp [State.keysLawful, and_assoc]

/-- R25: the law of the keys is one of the numbers of the table and of the unit counts. -/
theorem State.keysLawful_of_keys {s t : State} (h : s.keysLawful = true)
    (hunits : t.units.map (·.1) = s.units.map (·.1))
    (hcounts : t.channels.map (·.count) = s.channels.map (·.count)) : t.keysLawful = true := by
  rw [State.keysLawful_iff, hunits, hcounts]
  exact s.keysLawful_iff.1 h

theorem State.endOp_keysLawful {s : State} (h : s.keysLawful = true) (c : Fin 4) : (s.endOp c).keysLawful = true :=
  State.keysLawful_of_keys h (by simp) (s.endOp_read c (·.count) fun _ => rfl)

/-! ### What the law says of a move whose COPY is in flight -/

section
variable {s : State} (hlaw : s.lawful = true)
include hlaw

/-- R119: the relocation engine's operation in flight is a COPY. -/
theorem State.copy_in_flight {c : Fin 4} {op : Op} (hop : s.channels[c].inFlight = some op)
    (howner : op.owner = .relocation) : ∃ a b, s.flying c = some (.relocation, .copy a b) := by
  obtain ⟨-, -, -, -, hflights, -⟩ := s.lawful_iff.1 hlaw
  simp only [State.flightsLawful, Bool.and_eq_true, List.all_eq_true] at hflights
  obtain ⟨hflights, -⟩ := hflights
  obtain ⟨hflight, -⟩ := hflights c (List.mem_finRange c)
  obtain ⟨kind, owner, start⟩ := op
  obtain rfl : owner = .relocation := howner
  simp only [hop] at hflight
  cases kind with
  | copy a b => exact ⟨a, b, by simp only [State.flying, hop, Option.map_some]⟩
  | identify | reset | erase | readImage | writeImage => cases hflight

/-- R71: the law of a move in the list. -/
theorem State.moveLawful_of_lawful {c : Fin 4} {m : Move} (hm : s.moves[c] = some m) : s.moveLawful c m = true := by
  obtain ⟨-, -, -, hmoves, -⟩ := s.lawful_iff.1 hlaw
  simp only [State.movesLawful, Bool.and_eq_true, List.all_eq_true] at hmoves
  obtain ⟨⟨hmoves, -⟩, -⟩ := hmoves
  simpa only [hm] using hmoves c (List.mem_finRange c)

/-- R71: the target of a move is TARGET for the move's logical. -/
theorem State.target_of_move {c : Fin 4} {m : Move} {u : UnitRec} (hm : s.moves[c] = some m)
    (hu : s.unit? m.target = some u) : u.state = .target m.logical := by
  have hmove := State.moveLawful_of_lawful hlaw hm
  simp only [State.moveLawful, Bool.and_eq_true, beq_iff_eq] at hmove
  obtain ⟨⟨⟨⟨-, htarget⟩, -⟩, -⟩, -⟩ := hmove
  simpa [State.stateOf, hu] using htarget

/-- R71, R3: the source of a COPYING move is BOUND to the move's logical. -/
theorem State.source_of_move {c : Fin 4} {m : Move} {u : UnitRec} (hm : s.moves[c] = some m)
    (hph : m.phase = .copying) (hu : s.unit? m.source = some u) : u.state = .bound m.logical := by
  have hmove := State.moveLawful_of_lawful hlaw hm
  simp only [State.moveLawful, Bool.and_eq_true] at hmove
  obtain ⟨⟨⟨-, hrecord⟩, -⟩, -⟩ := hmove
  cases hr : s.logical? m.logical with
  | none => simp [hph, hr] at hrecord
  | some r =>
    have hsource : r.unit = some m.source ∧ r.move = some c := by simpa [hph, hr] using hrecord
    obtain ⟨-, -, hbindings, -⟩ := s.lawful_iff.1 hlaw
    simp only [State.bindingsLawful, Bool.and_eq_true, List.all_eq_true] at hbindings
    obtain ⟨⟨hmap, -⟩, -⟩ := hbindings
    have hbound := hmap (r, m.logical) (List.mk_mem_zipIdx_iff_getElem?.2 hr)
    simpa [hsource.1, State.stateOf, hu] using hbound

/-- R123: the replies to a COPY in flight are the relocation engine's. -/
theorem exec_copyReplies {c : Fin 4} {op : Op} (hrun : s.resetLow = false) (hop : s.channels[c].inFlight = some op)
    (howner : op.owner = .relocation) :
    exec (.copyDone c) s = .next ((s.endOp c).copySucceeds c) ∧
    exec (.copyFailProgram c) s = .next ((s.endOp c).copyFailsProgram c) ∧
    exec (.copyFailRead c) s = .next ((s.endOp c).copyFailsRead c) := by
  obtain ⟨a, b, hfly⟩ := State.copy_in_flight hlaw hop howner
  simp [exec, execCopyDone, execCopyFailProgram, execCopyFailRead, State.whenRunning, hrun, hfly]

end

/-! ### A move whose COPY ends without a commit -/

/-- The operation on channel `c` has ended and the unit `g` has been settled, with its notices: of the rest of the part
only the erase queues and the counters may have changed. -/
structure UnitSettled (s s2 : State) (c : Fin 4) (g : Nat) : Prop where
  control : s.SameControl s2
  map : s2.map = s.map
  waiters : s2.waiters = s.waiters
  holds : s2.holds = s.holds
  moves : s2.moves = s.moves
  ckpt : s2.ckpt = s.ckpt
  channels : s2.channels = s.channels.set c { s.channels[c] with inFlight := none }
  others : ∀ x, x ≠ g → s2.unit? x = s.unit? x
  link : s.link.Extends s2.link []

theorem State.unitSettled_retire (s : State) (c : Fin 4) (g : Nat) (cause : Cause) :
    UnitSettled s ((s.endOp c).retireUnit g cause) c g where
  control := by simp [State.SameControl]
  map := by simp
  waiters := by simp
  holds := by simp
  moves := by simp
  ckpt := by simp
  channels := by simp
  others x hx := by rw [State.unit?_retireUnit, if_neg hx]; rfl
  link := (s.endOp c).retireUnit_extends g cause

theorem State.unitSettled_discard {s : State} {g : Nat} {u : UnitRec} (hkeys : s.keysLawful = true)
    (hu : s.unit? g = some u) (hlive : ∀ c, u.state ≠ .retired c) (c : Fin 4) :
    UnitSettled s ((s.endOp c).discardToTail g) c g where
  control := by simp [State.SameControl]
  map := by simp
  waiters := by simp
  holds := by simp
  moves := by simp
  ckpt := by simp
  channels := by simp
  others x hx := by rw [State.unit?_discardToTail (s := s.endOp c) hu, if_neg hx]; rfl
  link := by
    rw [State.discardToTail_link (s := s.endOp c) hu (State.endOp_keysLawful hkeys c) hlive]
    exact Link.letGo_extends _ _ _ _ _

theorem UnitSettled.count {s s2 : State} {c : Fin 4} {g : Nat} (h : UnitSettled s s2 c g) (k : Counter) :
    UnitSettled s (s2.count k) c g where
  control := by simpa [State.SameControl] using h.control
  map := by simpa using h.map
  waiters := by simpa using h.waiters
  holds := by simpa using h.holds
  moves := by simpa using h.moves
  ckpt := by simpa using h.ckpt
  channels := by simpa using h.channels
  others x hx := h.others x hx
  link := by simpa using h.link

/-- R82 to R84: the outcome of a move whose COPY ended without a commit. -/
def Move.endStatus (m : Move) : Status := if m.phase = .abandoning then .moveAbandoned else .moveFailed

/-- The two ends of such a move are one, but for the outcome and the move reference. -/
theorem State.endCopy_eq (s : State) (c : Fin 4) (m : Move) (why : MoveReason) : s.endCopy c m why =
    (if m.phase = .abandoning then s else s.clearMoveRef m.logical).endMove c m m.endStatus why
      (s.bindingOf m.logical) := by
  unfold State.endCopy Move.endStatus; split <;> rfl

theorem State.endCopy_counted (s : State) (c : Fin 4) (m : Move) (why : MoveReason) :
    Counted s (s.endCopy c m why) fun k => if k = outcomeCounter m.endStatus then 1 else 0 := by
  rw [State.endCopy_eq]
  exact (State.endMove_counted _ _ _ _ _ _).of_counters_left (by split <;> simp)

/-- R89: the outcome's counter is the abandonments' or the failures'. -/
theorem Move.endStatus_counter (m : Move) : outcomeCounter m.endStatus =
    if m.phase = .abandoning then .movesAbandoned else .movesFailed := by
  unfold Move.endStatus; split <;> rfl

/-- R82, R83, R84: the move leaves the list with its report, and its source and the binding are unchanged. -/
theorem UnitSettled.endCopy {s s2 : State} {c : Fin 4} {m : Move} (h : UnitSettled s s2 c m.target)
    (hopen : ∀ tag, m.origin = .host tag → tag ∈ s.link.openTags) (hnd : s.link.openTags.Nodup) (why : MoveReason)
    {l : Link} (hl : s2.link = l) : s.SameControl (s2.endCopy c m why) ∧
      (s2.endCopy c m why).link = l.moveOutcome c m m.endStatus why (s.bindingOf m.logical) s.tick ∧
      (s2.endCopy c m why).map = (if m.phase = .abandoning then s.map else
        s.map.modify m.logical fun r => { r with move := none }) ∧
      (∀ x, x ≠ m.target → (s2.endCopy c m why).unit? x = s.unit? x) ∧ (s2.endCopy c m why).ckpt = s.ckpt ∧
      (s2.endCopy c m why).moves = s.moves.set c none ∧
      (s2.endCopy c m why).channels = s.channels.set c { s.channels[c] with inFlight := none } ∧
      (s2.endCopy c m why).waiters = s.waiters ∧ (s2.endCopy c m why).holds = s.holds ∧
      (∀ tag, m.origin = .host tag → PlacedLast s (s2.endCopy c m why) tag
        (moveRecord tag m.endStatus c m why (s.bindingOf m.logical) s.tick)) := by
  subst hl
  obtain ⟨-, -, -, htick, -⟩ := h.control
  have hbind : s2.bindingOf m.logical = s.bindingOf m.logical := by simp [State.bindingOf, State.logical?, h.map]
  have hlink : (s2.endCopy c m why).link =
      s2.link.moveOutcome c m m.endStatus why (s.bindingOf m.logical) s.tick := by
    have hopen2 (tag) (ho : m.origin = .host tag) : tag ∈ s2.link.openTags := h.link.tags ▸ hopen tag ho
    rw [State.endCopy_eq, State.endMove_link (by split <;> simpa using hopen2), hbind, ← htick]
    split <;> simp
  refine ⟨by simpa [State.SameControl] using h.control, hlink, ?_, fun x hx => ?_, by simp [h.ckpt], ?_,
    by simp [h.channels], by simp [h.waiters], by simp [h.holds], placedLast_moveOutcome hnd h.link hlink⟩
  · rw [State.endCopy_eq, ← h.map]
    split <;> simp [State.clearMoveRef, State.modifyLogical]
  · rw [State.unit?_of_units (s := s2) (by simp), h.others x hx]
  · rw [State.endCopy_eq, State.endMove_moves, ← h.moves]
    split <;> simp

/-- Settles O41: the target is settled, and the move ends by its phase. -/
theorem copyFailureEndsTheMove : Obligations.CopyFailureEndsTheMove := by
  intro s c op m tu hrun hlaw htag hop howner hm hu st failed frame
  have hkeys := State.endOp_keysLawful (State.lawful_keys hlaw) c
  have hlive : ∀ k, tu.state ≠ .retired k := fun k hk => by simp [State.target_of_move hlaw hm hu] at hk
  have hopen := htag.move_open hm
  have hu' : (s.endOp c).unit? m.target = some tu := hu
  have hm' : (s.endOp c).moves[c] = some m := hm
  obtain ⟨-, hprogram, hread⟩ := exec_copyReplies hlaw hrun hop howner
  constructor
  · let s2 := (s.endOp c).retireUnit m.target .programFail
    have hlink : s2.link = s.link.retirement m.target .programFail (s.spareCount - 1) s.params.sMin := by
      rw [State.retireUnit_link, State.retireUnit_spareCount _ hkeys hu' hlive]; simp
    refine ⟨s2.endCopy c m .program, ?_,
      (s.unitSettled_retire c m.target .programFail).endCopy hopen htag.distinct .program hlink, ?_, by simp [s2],
      (((s.endOp c).retireUnit_counted m.target .programFail).of_counters_left (by simp)).trans
        (s2.endCopy_counted c m .program) |>.congr fun k => ?_⟩
    · rw [hprogram, State.copyFailsProgram]; simp only [hm']; rfl
    · rw [State.unit?_of_units (s := s2) (by simp), State.unit?_retireUnit, if_pos rfl, hu']; rfl
    · rw [m.endStatus_counter]
      by_cases hph : m.phase = .abandoning
      · cases k <;> simp [failed, hph]
      · cases k <;> simp [failed, hph]
  · let s2 := ((s.endOp c).discardToTail m.target).count .sourceReadFailures
    have hlink : s2.link = s.link.letGo tu.retirePending m.target (s.spareCount - 1) s.params.sMin := by
      simp [s2, State.discardToTail_link hu' hkeys hlive]
    refine ⟨s2.endCopy c m .read, ?_,
      ((State.unitSettled_discard (State.lawful_keys hlaw) hu hlive c).count .sourceReadFailures).endCopy hopen
        htag.distinct .read hlink, ?_,
      (State.joinsTail_discardToTail hu').of_tables (by simp [s2]) (by simp [s2]),
      (((State.discardToTail_counted hu').of_counters_left (by simp)).trans (State.count_counted _ _)).trans
        (s2.endCopy_counted c m .read) |>.congr fun k => ?_⟩
    · rw [hread, State.copyFailsRead]; simp only [hm']; rfl
    · rw [State.unit?_of_units (s := (s.endOp c).discardToTail m.target) (by simp [s2]),
        State.unit?_discardToTail hu', if_pos rfl]
    · rw [m.endStatus_counter]
      by_cases hph : m.phase = .abandoning
      · cases k <;> simp [failed, hph]
      · cases k <;> simp [failed, hph]

end Sys2Proof.Machine

/-! SUPPORT. The DONE reply to a COPY: the commit of a move and its automatic checkpoint (R81, R82, R111); with O40. -/
namespace Sys2Proof.Machine

/-! ### The rebinding of a logical -/

theorem modifyIn_keys (us : List (Nat × UnitRec)) (g : Nat) (f : UnitRec → UnitRec) :
    (modifyIn us g f).map (·.1) = us.map (·.1) := by
  rw [modifyIn_eq_map, List.map_map]; rfl

/-- A change of one unit's record that leaves a property as it is leaves the number of units with it. -/
theorem countP_modifyIn_of_eq (p : UnitRec → Bool) {us : List (Nat × UnitRec)} {g : Nat} {u : UnitRec}
    (f : UnitRec → UnitRec) (hkeys : (us.map (·.1)).Nodup) (hu : unitIn us g = some u) (hp : p (f u) = p u) :
    (modifyIn us g f).countP (fun q => p q.2) = us.countP (fun q => p q.2) := by
  rw [modifyIn_eq_map, List.countP_map]
  refine List.countP_congr fun q hq => ?_
  by_cases hg : q.1 = g
  · have hqu : q.2 = u := Option.some.inj (((mem_iff_unitIn hkeys g q.2).1 (hg ▸ hq)).symm.trans hu)
    simp [hg, hqu, hp]
  · simp [hg]

/-- R81: the logical of the move `m` names its target, which is BOUND to it. -/
def State.rebound (s : State) (m : Move) (gen : Word16) : State :=
  (s.modifyUnit m.target fun u => { u with state := .bound m.logical, retirePending := false }).setLogical m.logical
    ⟨some m.target, gen, none⟩

@[simp] theorem State.rebound_frame (s : State) (m : Move) (gen : Word16) :
    (s.rebound m gen).pending = s.pending ∧ (s.rebound m gen).resetLow = s.resetLow ∧
    (s.rebound m gen).miso = s.miso ∧ (s.rebound m gen).tick = s.tick ∧ (s.rebound m gen).device = s.device ∧
    (s.rebound m gen).startup = s.startup ∧ (s.rebound m gen).formatRec = s.formatRec ∧
    (s.rebound m gen).params = s.params ∧ (s.rebound m gen).counters = s.counters ∧
    (s.rebound m gen).waiters = s.waiters ∧ (s.rebound m gen).eraseQueues = s.eraseQueues ∧
    (s.rebound m gen).holds = s.holds ∧ (s.rebound m gen).moves = s.moves ∧ (s.rebound m gen).ckpt = s.ckpt ∧
    (s.rebound m gen).channels = s.channels ∧ (s.rebound m gen).link = s.link := by simp [State.rebound]

@[simp] theorem State.rebound_map (s : State) (m : Move) (gen : Word16) :
    (s.rebound m gen).map = s.map.set m.logical ⟨some m.target, gen, none⟩ := rfl

theorem State.rebound_units (s : State) (m : Move) (gen : Word16) : (s.rebound m gen).units =
    modifyIn s.units m.target fun u => { u with state := .bound m.logical, retirePending := false } := rfl

theorem State.unit?_rebound (s : State) (m : Move) (gen : Word16) (x : Nat) : (s.rebound m gen).unit? x =
    if x = m.target then (s.unit? m.target).map fun u => { u with state := .bound m.logical, retirePending := false }
    else s.unit? x := State.unit?_modifyIn (s.rebound_units m gen) x

theorem State.rebound_keysLawful {s : State} (h : s.keysLawful = true) (m : Move) (gen : Word16) :
    (s.rebound m gen).keysLawful = true :=
  State.keysLawful_of_keys h (by rw [State.rebound_units, modifyIn_keys]) (by simp)

/-- R51: the spare count does not change when a logical changes its unit. -/
theorem State.rebound_spareCount {s : State} {m : Move} {u : UnitRec} (h : s.keysLawful = true)
    (hu : s.unit? m.target = some u) (hlive : ∀ c, u.state ≠ .retired c) (gen : Word16) :
    (s.rebound m gen).spareCount = s.spareCount := by
  refine State.spareCount_of_counts (by simp [State.counts]) ?_ (List.length_set ..)
  simp only [State.retiredSet, State.unitsWhere_length, State.rebound_units]
  exact countP_modifyIn_of_eq (fun u => u.state.isRetired) _ (State.keys_nodup h) hu
    (UnitState.isRetired_eq_false hlive).symm

/-! ### The commit -/

theorem State.commitMove_of_some {s : State} {m : Move} {r : LogicalRec} (hr : s.logical? m.logical = some r)
    (c : Fin 4) : s.commitMove c m = ((((s.rebound m (r.generation + 1)).releaseUnit m.source).endMove c m .ok .none
      (some m.target, r.generation + 1)).testTrigger m.source) := by
  simp only [State.commitMove, State.bindingOf_of_some hr]; rfl

section
variable {s : State} {m : Move} {r : LogicalRec} {tu su : UnitRec} (hr : s.logical? m.logical = some r) (c : Fin 4)
include hr

theorem State.commitMove_map : (s.commitMove c m).map = s.map.set m.logical ⟨some m.target, r.generation + 1, none⟩ := by
  simp [State.commitMove_of_some hr]

theorem State.commitMove_moves : (s.commitMove c m).moves = s.moves.set c none := by
  simp [State.commitMove_of_some hr]

/-- R111: the trigger is tested behind all the changes of the commit. -/
theorem State.autoCheckpoint_commitMove : AutoCheckpoint s (s.commitMove c m) m.source := by
  rw [State.commitMove_of_some hr]
  exact State.autoCheckpoint_testTrigger m.source (by simp) (by simp) (by simp) (by simp)

section
variable (hne : m.source ≠ m.target) (hsu : s.unit? m.source = some su)
include hne hsu

omit hr in
theorem State.unit?_rebound_source (gen : Word16) : (s.rebound m gen).unit? m.source = some su := by
  rw [State.unit?_rebound, if_neg hne, hsu]

/-- R81: the target is BOUND, the source has gone through unit release, and no other unit has changed. -/
theorem State.unit?_commitMove (hu : s.unit? m.target = some tu) (x : Nat) : (s.commitMove c m).unit? x =
    if x = m.source then some (released (s.ckpt.recordsBound m.source) su)
    else if x = m.target then some ⟨.bound m.logical, tu.wear, tu.holds, false⟩ else s.unit? x := by
  rw [State.commitMove_of_some hr,
    State.unit?_of_units (s := (s.rebound m (r.generation + 1)).releaseUnit m.source) (by simp),
    State.unit?_releaseUnit (State.unit?_rebound_source hne hsu _), State.unit?_rebound, hu]
  simp

theorem State.joinsTail_commitMove : JoinsTail s (s.commitMove c m) m.source := by
  rw [State.commitMove_of_some hr]
  exact (State.joinsTail_releaseUnit (State.unit?_rebound_source hne hsu (r.generation + 1))).of_tables (by simp)
    (by simp)

theorem State.commitMove_counted : Counted s (s.commitMove c m) fun k =>
    (if k = .retirements ∧ su.retirePending = true then 1 else 0) + if k = .movesCommitted then 1 else 0 := by
  let s3 := (s.rebound m (r.generation + 1)).releaseUnit m.source
  have hreleased := (State.releaseUnit_counted (State.unit?_rebound_source hne hsu (r.generation + 1))).of_counters_left
    (s' := s) (by simp)
  have hended := hreleased.trans (s3.endMove_counted c m .ok .none (some m.target, r.generation + 1))
  rw [State.commitMove_of_some hr]
  exact hended.of_counters (by simp [s3])

/-- R44, R81, R89, R90: the notices of the source's retirement, and behind them the report of the move. -/
theorem State.commitMove_link (hkeys : s.keysLawful = true) (hu : s.unit? m.target = some tu)
    (htlive : ∀ k, tu.state ≠ .retired k) (hslive : ∀ k, su.state ≠ .retired k)
    (hopen : ∀ tag, m.origin = .host tag → tag ∈ s.link.openTags) : (s.commitMove c m).link =
      (s.link.letGo su.retirePending m.source (s.spareCount - 1) s.params.sMin).moveOutcome c m .ok .none
        (some m.target, r.generation + 1) s.tick := by
  let s3 := (s.rebound m (r.generation + 1)).releaseUnit m.source
  have hlink3 : s3.link = s.link.letGo su.retirePending m.source (s.spareCount - 1) s.params.sMin := by
    rw [State.releaseUnit_link (State.unit?_rebound_source hne hsu _) (State.rebound_keysLawful hkeys m _) hslive,
      State.rebound_spareCount hkeys hu htlive]
    simp
  have hopen3 (tag) (ho : m.origin = .host tag) : tag ∈ s3.link.openTags := by
    rw [hlink3, (Link.letGo_extends _ _ _ _ _).tags]; exact hopen tag ho
  have htick : s3.tick = s.tick := by simp [s3]
  rw [State.commitMove_of_some hr, ← hlink3, ← htick, ← State.endMove_link hopen3]
  simp [s3]

end
end

/-! ### The DONE reply -/

theorem State.copySucceeds_of_move {s : State} {c : Fin 4} {m : Move} (hm : s.moves[c] = some m) : s.copySucceeds c =
    ((if m.phase = .abandoning then (s.discardToTail m.target).endCopy c m .none else s.commitMove c m).evaluate
      c).settle (some c) := by
  simp only [State.copySucceeds, hm]
  split <;> rfl

/-- Settles O40: a commit is the rebinding, the release of the source, the report and the test of the trigger, in order;
an ABANDONING move ends as a failing COPY's does. -/
theorem copyDoneCommitsOrEndsTheMove : Obligations.CopyDoneCommitsOrEndsTheMove := by
  intro s c op m tu hrun hlaw htag hop howner hm hu idle
  have hkeys := State.endOp_keysLawful (State.lawful_keys hlaw) c
  have htarget := State.target_of_move hlaw hm hu
  have hlive : ∀ k, tu.state ≠ .retired k := by simp [htarget]
  have hopen := htag.move_open hm
  have hu' : (s.endOp c).unit? m.target = some tu := hu
  obtain ⟨hexec, -, -⟩ := exec_copyReplies hlaw hrun hop howner
  rw [hexec, State.copySucceeds_of_move (s := s.endOp c) hm]
  refine ⟨fun hph hmark r su hr hsu => ?_, fun hph => ?_⟩
  · have hsource := State.source_of_move hlaw hm hph hsu
    have hne : m.source ≠ m.target := fun e => by
      obtain rfl : su = tu := Option.some.inj (hsu.symm.trans (e ▸ hu))
      simp [hsource] at htarget
    have hr' : (s.endOp c).logical? m.logical = some r := hr
    have hunit := State.unit?_commitMove hr' c hne (su := su) hsu hu'
    have hlink := State.commitMove_link hr' c hne (su := su) hsu hkeys hu' hlive (by simp [hsource]) hopen
    rw [State.endOp_spareCount] at hlink
    refine ⟨(s.endOp c).commitMove c m, by rw [if_neg (by simp [hph])], by simp [State.SameControl],
      State.commitMove_map hr' c, ?_, ?_, fun x hx hxs => ?_, State.joinsTail_commitMove hr' c hne hsu,
      State.autoCheckpoint_commitMove hr' c, State.commitMove_moves hr' c, by simp, by simp,
      placedLast_moveOutcome htag.distinct (Link.letGo_extends _ _ _ _ _) hlink, hlink,
      ((State.commitMove_counted hr' c hne (su := su) hsu).of_counters_left (by simp)).congr fun k => ?_⟩
    · rw [hunit, if_neg hne.symm, if_pos rfl]
    · rw [hunit, if_pos rfl]; rfl
    · rw [hunit, if_neg hxs, if_neg hx]; rfl
    · cases k <;> simp
  · let s2 := (s.endOp c).discardToTail m.target
    have hlink : s2.link = s.link.letGo tu.retirePending m.target (s.spareCount - 1) s.params.sMin := by
      simp [s2, State.discardToTail_link hu' hkeys hlive]
    have hst : m.endStatus = .moveAbandoned := if_pos hph
    obtain ⟨hcontrol, hlink, hmap, hothers, hckpt, hmoves, hchannels, hwaiters, hholds, hplaced⟩ :=
      (State.unitSettled_discard (State.lawful_keys hlaw) hu hlive c).endCopy hopen htag.distinct .none hlink
    rw [hst] at hlink hplaced
    refine ⟨s2.endCopy c m .none, by rw [if_pos hph], hcontrol, hmap.trans (if_pos hph), ?_, hothers,
      (State.joinsTail_discardToTail hu').of_tables (by simp [s2]) (by simp [s2]), hckpt, hchannels, hmoves, hwaiters,
      hholds, hplaced, hlink, ((State.discardToTail_counted hu').of_counters_left (by simp)).trans
        (s2.endCopy_counted c m .none) |>.congr fun k => ?_⟩
    · rw [State.unit?_of_units (s := s2) (by simp), State.unit?_discardToTail hu', if_pos rfl]
    · rw [hst]; cases k <;> simp [outcomeCounter]

end Sys2Proof.Machine

/-! SUPPORT. The law of the checkpoint unit (R93, R95, R97, R113, R122) beside that of the device states (R135, R138):
the changes of state that keep the two, and the operations and commands that are made of them; with O46. -/
namespace Sys2Proof.Machine

/-! ### The two laws together -/

/-- R93, R135: the law of the device states and the law of the checkpoint unit, each of which needs the other. -/
structure State.CkptLawful (s : State) : Prop where
  device : DeviceInv s
  ckpt : CkptInv s

section
variable {s t : State} (h : s.CkptLawful)
include h

/-- Both laws speak of the checkpoint unit, the device state, start-up and the FORMAT record alone. -/
theorem State.CkptLawful.frame (hst : t.ckpt = s.ckpt ∧ t.device = s.device ∧ t.startup = s.startup ∧
    t.formatRec = s.formatRec) : t.CkptLawful := by
  obtain ⟨hckpt, hdevice, hstartup, hformat⟩ := hst
  obtain ⟨⟨hrunning, hformatting⟩, hslot, hflight, hstarting, hearly, hown, hlate⟩ := h
  constructor
  · rw [DeviceInv, hdevice, hstartup, hformat]; exact ⟨hrunning, hformatting⟩
  · constructor <;> rw [hckpt] <;> simpa only [hdevice, hformat]

/-- R135: outside FORMATTING there is no FORMAT record. -/
theorem State.CkptLawful.no_format (hd : s.device ≠ .formatting) : s.formatRec = none := by
  obtain ⟨⟨-, hformatting⟩, -⟩ := h
  simpa using mt hformatting.2 hd

/-- R95, R135, R138: until start-up has ended the device is STARTING, and there is neither a FORMAT record nor a
checkpoint in flight. -/
theorem State.CkptLawful.reading (hst : s.startup.stage ≠ .ended) :
    s.device = .starting ∧ s.formatRec = none ∧ s.ckpt.flight = none := by
  have hd : s.device = .starting := h.device.1.2 hst
  exact ⟨hd, h.no_format (by simp [hd]), h.ckpt.starting hd⟩

/-! ### The changes that keep the laws -/

/-- R93: the checkpoint in flight is gone, or is the same but for its phase and a host's origin. -/
theorem State.CkptLawful.flight_kept (hgen : t.ckpt.durableGen = s.ckpt.durableGen)
    (hslot : t.ckpt.durableSlot = s.ckpt.durableSlot)
    (hflight : ∀ f, t.ckpt.flight = some f → ∃ f', s.ckpt.flight = some f' ∧ f.snapshot = f'.snapshot ∧
      f.target = f'.target ∧ (f'.origin = .format → f.origin = .format))
    (hst : t.device = s.device ∧ t.startup = s.startup ∧ t.formatRec = s.formatRec) : t.CkptLawful := by
  obtain ⟨hdevice, hstartup, hformat⟩ := hst
  have hnone (hn : s.ckpt.flight = none) : t.ckpt.flight = none := by
    refine Option.eq_none_iff_forall_not_mem.2 fun f hf => ?_
    obtain ⟨f', hf', -⟩ := hflight f hf
    simp [hn] at hf'
  refine ⟨by rw [DeviceInv, hdevice, hstartup, hformat]; exact h.device, ?_, fun f hf => ?_, fun hd => ?_,
    fun f hf hstep => ?_, fun f g hf hg => ?_, fun f hf hstep => ?_⟩
  · rw [hgen, hslot]; exact h.ckpt.slot
  · obtain ⟨f', hf', hsnap, htarget, -⟩ := hflight f hf
    rw [hgen, hslot, hsnap, htarget]
    exact h.ckpt.flight f' hf'
  · exact hnone (h.ckpt.starting (hdevice ▸ hd))
  · exact hnone (h.ckpt.early f (hformat ▸ hf) hstep)
  · obtain ⟨g', hg', -, -, horigin⟩ := hflight g hg
    exact horigin (h.ckpt.own f g' (hformat ▸ hf) hg')
  · rw [hgen]; exact h.ckpt.late f (hformat ▸ hf) hstep

/-- R96, R113: a checkpoint takes flight. In FORMATTING it is the FORMAT's, and both slots have been erased. -/
theorem State.CkptLawful.launch (fl : Flight) (hckpt : t.ckpt = { s.ckpt with flight := some fl })
    (hgen : s.ckpt.durableGen ≠ 0xFFFFFFFF) (hsnap : fl.snapshot.generation = s.ckpt.durableGen + 1)
    (htarget : s.ckpt.durableSlot ≠ some fl.target) (hd : s.device ≠ .starting)
    (hformat : ∀ f, s.formatRec = some f → f.step = .imageWrite ∧ fl.origin = .format)
    (hst : t.device = s.device ∧ t.startup = s.startup ∧ t.formatRec = s.formatRec) : t.CkptLawful := by
  obtain ⟨hdevice, hstartup, hrec⟩ := hst
  refine ⟨by rw [DeviceInv, hdevice, hstartup, hrec]; exact h.device, ?_, fun f hf => ?_, fun hs => ?_,
    fun f hf hstep => ?_, fun f g hf hg => ?_, fun f hf hstep => ?_⟩
  · rw [hckpt]; exact h.ckpt.slot
  · rw [hckpt] at hf ⊢
    cases hf
    exact ⟨hgen, hsnap, htarget⟩
  · exact absurd (hdevice ▸ hs) hd
  · exact absurd (hformat f (hrec ▸ hf)).1 hstep
  · rw [hckpt] at hg
    cases hg
    exact (hformat f (hrec ▸ hf)).2
  · rw [hckpt]; exact h.ckpt.late f (hrec ▸ hf) hstep

/-- R142, R144: start-up ends, with an image loaded or none. -/
theorem State.CkptLawful.startup_ends (hst : s.startup.stage ≠ .ended) (hd : t.device ≠ .starting)
    (hd' : t.device ≠ .formatting) (hstage : t.startup.stage = .ended) (hformat : t.formatRec = s.formatRec)
    (hslot : t.ckpt.durableSlot = none ↔ t.ckpt.durableGen = 0) (hflight : t.ckpt.flight = none) : t.CkptLawful := by
  obtain ⟨-, hnone, -⟩ := h.reading hst
  rw [hnone] at hformat
  exact ⟨⟨by simp [hd, hstage], by simp [hd', hformat]⟩, hslot, by simp [hflight], by simp [hd], by simp [hformat],
    by simp [hformat], by simp [hformat]⟩

/-- R138, R139: start-up goes on from one stage to another. -/
theorem State.CkptLawful.startup_goes_on (hst : s.startup.stage ≠ .ended) (hst' : t.startup.stage ≠ .ended)
    (hsame : t.ckpt = s.ckpt ∧ t.device = s.device ∧ t.formatRec = s.formatRec) : t.CkptLawful := by
  obtain ⟨hckpt, hdevice, hformat⟩ := hsame
  obtain ⟨hd, hnone, hflight⟩ := h.reading hst
  rw [hnone] at hformat
  exact ⟨⟨by simp [hdevice, hd, hst'], by simp [hdevice, hd, hformat]⟩, by rw [hckpt]; exact h.ckpt.slot,
    by simp [hckpt, hflight], by simp [hckpt, hflight], by simp [hformat], by simp [hformat], by simp [hformat]⟩

/-- R149, R150: a FORMAT ends. -/
theorem State.CkptLawful.format_ends (hrec : s.formatRec.isSome = true) (hd : t.device ≠ .starting)
    (hd' : t.device ≠ .formatting)
    (hst : t.formatRec = none ∧ t.ckpt = s.ckpt ∧ t.startup = s.startup) : t.CkptLawful := by
  obtain ⟨hnone, hckpt, hstartup⟩ := hst
  have hds : s.device ≠ .starting := by simp [h.device.2.2 hrec]
  have hended : s.startup.stage = .ended := by simpa using mt h.device.1.2 hds
  exact ⟨⟨by simp [hd, hstartup, hended], by simp [hd', hnone]⟩, by rw [hckpt]; exact h.ckpt.slot,
    by rw [hckpt]; exact h.ckpt.flight, by simp [hd], by simp [hnone], by simp [hnone], by simp [hnone]⟩

/-- R104: the image of a checkpoint in flight becomes the durable one, outside FORMATTING or with the FORMAT's end. -/
theorem State.CkptLawful.durable {f : Flight} (hflight : s.ckpt.flight = some f)
    (hckpt : t.ckpt.durableGen = f.snapshot.generation ∧ t.ckpt.durableSlot = some f.target ∧ t.ckpt.flight = none)
    (hstartup : t.startup = s.startup) (hrec : t.formatRec = none)
    (hd : t.device = if s.formatRec.isSome then .ready else s.device) : t.CkptLawful := by
  obtain ⟨hgen, hslot, hnone⟩ := hckpt
  obtain ⟨hmax, hnext, -⟩ := h.ckpt.flight f hflight
  have hne : f.snapshot.generation ≠ 0 := by rw [hnext]; bv_omega
  have hdevice : DeviceInv t := by
    obtain ⟨hrunning, hformatting⟩ := h.device
    rw [DeviceInv, hstartup, hrec, hd, ← hrunning]
    split
    · next hsome => simp [hformatting.2 hsome]
    · next hsome => simp [hformatting, hsome]
  exact ⟨hdevice, by simpa [hslot, hgen] using hne, by simp [hnone], by simp [hnone], by simp [hrec], by simp [hrec],
    by simp [hrec]⟩

end

/-! ### What ends a claim -/

section
variable {s : State} (h : s.CkptLawful)
include h

theorem State.CkptLawful.settle (ended : Option (Fin 4)) : (s.settle ended).CkptLawful := h.frame (by simp)

theorem State.CkptLawful.reexamine : s.reexamine.CkptLawful := h.frame (by simp)

theorem State.CkptLawful.evaluate (c : Fin 4) : (s.evaluate c).CkptLawful := h.frame (by simp)

theorem State.CkptLawful.evaluateAll (cs : List (Fin 4)) : (s.evaluateAll cs).CkptLawful := h.frame (by simp)

end

/-! ### The image that start-up loads -/

/-- R142: the image that is chosen is VALID in its slot. -/
theorem chooseImage_valid {counts : Vector Nat 4} {a b : SlotRead} {k : Slot} {bs : List Byte}
    (hk : chooseImage counts a b = some (k, bs)) : validImage counts k bs = true := by
  unfold chooseImage at hk
  split at hk
  · split at hk
    · split at hk
      · next hb => cases hk; exact (Bool.and_eq_true_iff.1 hb).1
      · next ha _ => cases hk; exact ha
    · split at hk
      · next hb => cases hk; exact hb
      · cases hk
  · split at hk
    · next ha => cases hk; exact ha
    · cases hk
  · split at hk
    · next hb => cases hk; exact hb
    · cases hk
  · cases hk

/-- R141: a VALID image does not carry the generation 0. -/
theorem headerGeneration_ne_zero {counts : Vector Nat 4} {k : Slot} {bs : List Byte}
    (hv : validImage counts k bs = true) : headerGeneration bs ≠ 0 := by
  simp only [validImage, Bool.and_eq_true, decide_eq_true_eq] at hv
  obtain ⟨⟨⟨⟨-, hgen⟩, -⟩, -⟩, -⟩ := hv
  rintro he
  simp [he] at hgen

@[simp] theorem State.endStartup_device (s : State) (d : DeviceState) (ra rb : SlotResult) (l : Option Slot)
    (g : Word32) : (s.endStartup d ra rb l g).device = d := by simp [State.endStartup]

@[simp] theorem State.endStartup_stage (s : State) (d : DeviceState) (ra rb : SlotResult) (l : Option Slot)
    (g : Word32) : (s.endStartup d ra rb l g).startup.stage = .ended := by simp [State.endStartup]

/-! ### The ends of a FORMAT and of a checkpoint -/

@[simp] theorem State.formatSucceeds_formatRec (s : State) : s.formatSucceeds.formatRec = none := by
  unfold State.formatSucceeds
  split
  · assumption
  · dsimp only; split <;> simp

@[simp] theorem State.formatSucceeds_device (s : State) :
    s.formatSucceeds.device = if s.formatRec.isSome then .ready else s.device := by
  unfold State.formatSucceeds
  split
  · next hnone => simp [hnone]
  · next hsome => dsimp only; split <;> simp [hsome]

@[simp] theorem State.formatFails_formatRec (s : State) (why : FormatReason) :
    (s.formatFails why).formatRec = none := by
  unfold State.formatFails
  split
  · assumption
  · dsimp only; split <;> simp

@[simp] theorem State.formatFails_device (s : State) (why : FormatReason) :
    (s.formatFails why).device = if s.formatRec.isSome then .failed .slot else s.device := by
  unfold State.formatFails
  split
  · next hnone => simp [hnone]
  · next hsome => dsimp only; split <;> simp [hsome]

theorem State.reportCheckpoint_ok_formatRec (s : State) (f : Flight) (why : CkptReason) (n : Nat) :
    (s.reportCheckpoint f .ok why n).formatRec = if f.origin = .format then none else s.formatRec := by
  unfold State.reportCheckpoint
  split <;> simp [*]

theorem State.reportCheckpoint_ok_device (s : State) (f : Flight) (why : CkptReason) (n : Nat) :
    (s.reportCheckpoint f .ok why n).device =
      if f.origin = .format then (if s.formatRec.isSome then .ready else s.device) else s.device := by
  unfold State.reportCheckpoint
  split <;> simp [*]

/-- R97: a checkpoint never goes to the slot that holds the durable image. -/
theorem State.targetSlot_ne (s : State) : s.ckpt.durableSlot ≠ some s.targetSlot := by
  unfold State.targetSlot
  split <;> simp [*]

section
variable {s : State} (h : s.CkptLawful)
include h

theorem State.CkptLawful.formatSucceeds : s.formatSucceeds.CkptLawful := by
  cases hrec : s.formatRec with
  | none => exact h.frame (by simp [hrec])
  | some f => exact h.format_ends (by simp [hrec]) (by simp [hrec]) (by simp [hrec]) (by simp)

theorem State.CkptLawful.formatFails (why : FormatReason) : (s.formatFails why).CkptLawful := by
  cases hrec : s.formatRec with
  | none => exact h.frame (by simp [hrec])
  | some f => exact h.format_ends (by simp [hrec]) (by simp [hrec]) (by simp [hrec]) (by simp)

/-- R108, R109, R149, R150: the report of a checkpoint may end a FORMAT. -/
theorem State.CkptLawful.reportCheckpoint (f : Flight) (st : Status) (why : CkptReason) (n : Nat) :
    (s.reportCheckpoint f st why n).CkptLawful := by
  unfold State.reportCheckpoint
  split
  · exact h.frame (by simp)
  · exact h.frame (by simp)
  · split
    · exact h.formatSucceeds
    · exact h.formatFails _
  · exact h

/-- R106: after a failure the durable state stands as it was, and no checkpoint is in flight. -/
theorem State.CkptLawful.checkpointFails (why : CkptReason) (lost : Bool) :
    (s.checkpointFails why lost).CkptLawful := by
  unfold State.checkpointFails
  split
  · exact h
  · exact State.CkptLawful.reportCheckpoint (h.flight_kept (by simp) (by simp) (by simp) (by simp)) _ _ _ _

/-- R104, R149: after a success the image is the durable one; the success of a FORMAT's checkpoint ends the FORMAT. -/
theorem State.CkptLawful.checkpointSucceeds : s.checkpointSucceeds.CkptLawful := by
  unfold State.checkpointSucceeds
  split
  · exact h
  · next f hflight =>
    have hformat : f.origin ≠ .format → s.formatRec = none := fun hne =>
      Option.eq_none_iff_forall_not_mem.2 fun g hg => hne (h.ckpt.own g f hg hflight)
    refine h.durable hflight (by simp) (by simp) ?_ ?_
    · rw [State.reportCheckpoint_ok_formatRec]
      split
      · rfl
      · next hne => simpa using hformat hne
    · rw [State.reportCheckpoint_ok_device]
      split
      · simp
      · next hne => simp [hformat hne]

/-- R100, R101, R103: an operation is placed, or the checkpoint fails. -/
theorem State.CkptLawful.placeCheckpointOp (k : Slot) (kind : OpKind) : (s.placeCheckpointOp k kind).CkptLawful := by
  unfold State.placeCheckpointOp
  split
  · exact h.frame (by simp)
  · exact h.checkpointFails _ _

/-- R96, R111: a checkpoint starts in READY or in SERVICE. -/
theorem State.CkptLawful.startCheckpoint (hd : s.device = .ready ∨ s.device = .service)
    (hgen : s.ckpt.durableGen ≠ 0xFFFFFFFF) (o : CkptOrigin) : (s.startCheckpoint o).CkptLawful := by
  have hstarting : s.device ≠ .starting := by rintro he; simp [he] at hd
  have hnone : s.formatRec = none := h.no_format (by rintro he; simp [he] at hd)
  unfold State.startCheckpoint
  exact State.CkptLawful.placeCheckpointOp
    (h.launch ⟨.erasingSlot, o, s.targetSlot, s.takeSnapshot s.targetSlot⟩ rfl hgen rfl s.targetSlot_ne hstarting
      (by simp [hnone]) (by simp)) _ _

/-- R113: the FORMAT's checkpoint starts when both slots have been erased. -/
theorem State.CkptLawful.startFormatCheckpoint {f : FormatRec} (hrec : s.formatRec = some f)
    (hstep : f.step = .imageWrite) : s.startFormatCheckpoint.CkptLawful := by
  have hd : s.device = .formatting := h.device.2.2 (by simp [hrec])
  have hgen : s.ckpt.durableGen = 0 := h.ckpt.late f hrec hstep
  unfold State.startFormatCheckpoint
  exact State.CkptLawful.placeCheckpointOp
    (h.launch ⟨.writing, .format, s.targetSlot, s.takeSnapshot s.targetSlot⟩ rfl (by simp [hgen]) rfl s.targetSlot_ne
      (by simp [hd]) (by simp [hrec, hstep]) (by simp)) _ _

/-- R111: an automatic checkpoint starts in READY. -/
theorem State.CkptLawful.testTrigger (g : Nat) : (s.testTrigger g).CkptLawful := by
  unfold State.testTrigger
  split
  · split
    · next hdue =>
      simp only [State.autoTriggers, Bool.and_eq_true, decide_eq_true_eq] at hdue
      obtain ⟨-, ⟨⟨⟨⟨hready, -⟩, -⟩, -⟩, -⟩, hgen⟩ := hdue
      exact h.startCheckpoint (.inl hready) hgen .auto
    · exact h
  · exact h

/-! ### Moves, holds, and the BINDs that wait -/

theorem State.CkptLawful.commitMove (c : Fin 4) (m : Move) : (s.commitMove c m).CkptLawful :=
  State.CkptLawful.testTrigger (h.frame (by simp)) m.source

theorem State.CkptLawful.releaseAndTests (gs : List Nat) : (gs.foldl State.releaseAndTest s).CkptLawful := by
  induction gs generalizing s with
  | nil => exact h
  | cons g gs ih => exact ih (State.CkptLawful.testTrigger (h.frame (by simp)) g)

theorem State.CkptLawful.expireHold (i : Fin 64) (e : HoldEntry) : (s.expireHold i e).CkptLawful :=
  (State.CkptLawful.testTrigger (h.frame (t := s.removeHold i e) (by simp)) e.unit).frame (by simp [State.expireHold])

theorem State.CkptLawful.bindEffect (tag : Byte) (n : Nat) (hold : Bool) (g : Nat) :
    (s.bindEffect tag n hold g).1.CkptLawful := by
  unfold State.bindEffect
  dsimp only
  split
  · refine State.CkptLawful.testTrigger (h.frame ?_) _
    split <;> simp
  · refine h.frame ?_
    split <;> simp

theorem State.CkptLawful.serve (ws : List Waiter) : (serve ws s).1.CkptLawful := by
  induction ws generalizing s with
  | nil => exact h
  | cons w ws ih =>
    unfold Machine.serve
    split
    · exact h
    · dsimp only
      split
      · exact ih (h.frame (by simp))
      · exact ih (State.CkptLawful.bindEffect (h.frame (by simp)) _ _ _ _)

theorem State.CkptLawful.serveWaiters : s.serveWaiters.1.CkptLawful := h.serve s.waiters

theorem State.CkptLawful.afterAbandon (left : List (Fin 4)) : (s.afterAbandon left).CkptLawful := by
  unfold State.afterAbandon
  split
  · exact h.serveWaiters.evaluateAll _
  · exact h.evaluateAll left

theorem State.CkptLawful.serveAndReexamine : s.serveAndReexamine.CkptLawful :=
  h.serveWaiters.reexamine.evaluateAll _

theorem State.CkptLawful.afterErase (c : Fin 4) : (s.afterErase c).CkptLawful :=
  (h.serveAndReexamine.evaluate c).settle (some c)

/-! ### Start-up -/

/-- R142: start-up may end without an image. -/
theorem State.CkptLawful.endStartup (hst : s.startup.stage ≠ .ended) {d : DeviceState} (hd : d ≠ .starting)
    (hd' : d ≠ .formatting) (ra rb : SlotResult) : (s.endStartup d ra rb none 0).CkptLawful := by
  obtain ⟨-, -, hflight⟩ := h.reading hst
  exact h.startup_ends hst (by simpa using hd) (by simpa using hd') (by simp) (by simp) (by simpa using h.ckpt.slot)
    (by simpa using hflight)

/-- R142: both slots are judged; an image that is loaded is VALID, so that its generation is not 0. -/
theorem State.CkptLawful.judge (hst : s.startup.stage ≠ .ended) (a b : SlotRead) : (s.judge a b).CkptLawful := by
  unfold State.judge
  dsimp only
  split
  · next k bs hk =>
    have hgen : headerGeneration bs ≠ 0 := headerGeneration_ne_zero (chooseImage_valid hk)
    exact h.startup_ends hst (by simp) (by simp) (by simp) (by simp) (by simpa [State.loadImage] using hgen)
      (by simp [State.loadImage])
  · split
    · exact h.endStartup hst (by simp) (by simp) _ _
    · exact h.endStartup hst (by simp) (by simp) _ _

theorem State.CkptLawful.startReadB (hst : s.startup.stage ≠ .ended) (a : SlotRead) : (s.startReadB a).CkptLawful := by
  unfold State.startReadB
  split
  · exact h.startup_goes_on hst (by simp) (by simp)
  · exact h.judge hst a .unread

theorem State.CkptLawful.startReadA (hst : s.startup.stage ≠ .ended) : s.startReadA.CkptLawful := by
  unfold State.startReadA
  split
  · exact h.startup_goes_on hst (by simp) (by simp)
  · exact h.startReadB hst .unread

theorem State.CkptLawful.readEnds (r : SlotRead) : (s.readEnds r).CkptLawful := by
  unfold State.readEnds
  split
  · next hst => exact h.startReadB (by simp [hst]) r
  · next hst => exact h.judge (by simp [hst]) _ r
  · exact h
  · exact h

theorem State.CkptLawful.testProbeEnd : s.testProbeEnd.CkptLawful := by
  unfold State.testProbeEnd
  split
  · next hend =>
    obtain ⟨hprobing, -⟩ := hend
    have hst : s.startup.stage ≠ .ended := by simp [hprobing]
    split
    · exact h.endStartup hst (by simp) (by simp) _ _
    · exact h.startReadA hst
  · exact h

theorem State.CkptLawful.probeAbsent (c : Fin 4) : (s.probeAbsent c).CkptLawful :=
  State.CkptLawful.testProbeEnd (h.frame (by simp))

theorem State.CkptLawful.probeIdentifies (c : Fin 4) (n : Word16) : (s.probeIdentifies c n).CkptLawful := by
  unfold State.probeIdentifies
  split
  · exact State.CkptLawful.testProbeEnd (h.frame (by simp))
  · exact h.probeAbsent c

/-! ### FORMAT -/

theorem State.CkptLawful.placeFormatErase (k : Slot) : (s.placeFormatErase k).CkptLawful := by
  unfold State.placeFormatErase
  split
  · exact h.frame (by simp)
  · exact h.formatFails _

/-- R147, R94: the erase of slot A clears the durable state. -/
theorem State.CkptLawful.formatEraseDone : s.formatEraseDone.CkptLawful := by
  unfold State.formatEraseDone
  split
  · exact h
  · next f hrec =>
    have hd : s.device = .formatting := h.device.2.2 (by simp [hrec])
    have hended : s.startup.stage = .ended := by simpa [hd] using h.device.1
    split
    · next hstep =>
      have hflight : s.ckpt.flight = none := h.ckpt.early f hrec (by simp [hstep])
      refine State.CkptLawful.placeFormatErase ⟨by simp [DeviceInv, hd, hended], ?_⟩ .a
      exact ⟨h.ckpt.slot, by simp [hflight], by simp [hd], by simp [hflight], by simp [hflight], by simp⟩
    · next hstep =>
      have hflight : s.ckpt.flight = none := h.ckpt.early f hrec (by simp [hstep])
      refine ⟨by simp [DeviceInv, hd, hended], ?_⟩
      exact ⟨by simp, by simp [hflight], by simp [hd], by simp, by simp [hflight], by simp⟩
    · exact h

/-- R148, R149: the unit reset starts the FORMAT's checkpoint. -/
theorem State.CkptLawful.unitReset {f : FormatRec} (hrec : s.formatRec = some f) (hdue : s.unitResetDue f = true) :
    (s.unitReset f).CkptLawful := by
  have hstep : f.step = .imageWrite := by
    simp only [State.unitResetDue, Bool.and_eq_true, decide_eq_true_eq] at hdue
    exact hdue.1.1.2
  let s3 := (((s.setUnits (s.resetUnits f)).setEraseQueues (dirtyQueues (s.resetUnits f))).setMap
    (List.replicate f.l.toNat ⟨none, 0, none⟩)).setParams { s.params with sMin := f.sMin }
  have h3 : s3.CkptLawful := h.frame (by simp [s3])
  exact (h3.startFormatCheckpoint hrec hstep).settle none

/-! ### Restarts and channel faults -/

theorem State.CkptLawful.restartFails (c : Fin 4) (cause : FaultCause) (why : RestartReason) (n : Word16) :
    (s.restartFails c cause why n).CkptLawful := by
  unfold State.restartFails
  dsimp only
  split <;> exact h.frame (by simp)

theorem State.CkptLawful.restartSucceeds (c : Fin 4) : (s.restartSucceeds c).CkptLawful := by
  refine (State.CkptLawful.evaluate (State.CkptLawful.serveAndReexamine (h.frame ?_)) c).settle (some c)
  split <;> simp

theorem State.CkptLawful.restartIdentifies (c : Fin 4) (n : Word16) : (s.restartIdentifies c n).CkptLawful := by
  unfold State.restartIdentifies
  split
  · exact h.restartSucceeds c
  · exact h.restartFails c _ _ _

/-- R103, R139, R150: an operation lost in flight ends a checkpoint, a read of start-up or a FORMAT, by its owner. -/
theorem State.CkptLawful.loseInFlight (c : Fin 4) (op : Op) : (s.loseInFlight c op).CkptLawful := by
  unfold State.loseInFlight
  split
  · exact h.frame (by simp)
  · exact h.frame (by simp)
  · exact h.checkpointFails _ _
  · exact h.checkpointFails _ _
  · exact h.readEnds _
  · exact h.formatFails _
  · exact h
  · exact h

theorem State.CkptLawful.losePending (w : Option ImageWork) : (s.losePending w).CkptLawful := by
  unfold State.losePending
  split
  · exact h
  · split
    · exact h.checkpointFails _ _
    · exact h.readEnds _
    · exact h.formatFails _
    · exact h
    · exact h
    · exact h

theorem State.CkptLawful.faultChannel (c : Fin 4) (cause : FaultCause) (op : Op) :
    (s.faultChannel c cause op).CkptLawful := by
  let s2 := (s.setChannel c { s.channels[c] with
    state := .faulted, fault := some cause, inFlight := none, pendingImage := none }).post .channelFault
      (channelFaultNotice c cause op.kind s.tick)
  have h2 : s2.CkptLawful := h.frame (by simp [s2])
  let s4 := (s2.loseInFlight c op).losePending s.channels[c].pendingImage
  have h4 : s4.CkptLawful := (h2.loseInFlight c op).losePending _
  have h5 : (s4.loseAssigned c).CkptLawful := h4.frame (by simp)
  exact (h5.reexamine.evaluate c).settle none

theorem State.CkptLawful.loseOperation (c : Fin 4) (op : Op) (cause : FaultCause) (why : RestartReason) :
    (s.loseOperation c op cause why).CkptLawful := by
  unfold State.loseOperation
  split
  · exact (h.probeAbsent c).settle _
  · exact (h.probeAbsent c).settle _
  · exact h.restartFails c _ _ _
  all_goals exact h.faultChannel c cause op

/-! ### Replies -/

/-- R101: the checkpoint goes on to write its image. -/
theorem State.CkptLawful.slotErased (c : Fin 4) : (s.slotErased c).CkptLawful := by
  unfold State.slotErased
  split
  · exact h.frame (by simp)
  · next f hflight =>
    refine (State.CkptLawful.placeCheckpointOp (h.flight_kept (by simp) (by simp) ?_ (by simp)) _ _).settle (some c)
    simp [hflight]

theorem State.CkptLawful.copySucceeds (c : Fin 4) : (s.copySucceeds c).CkptLawful := by
  unfold State.copySucceeds State.afterMove
  split
  · exact h.frame (by simp)
  · split
    · exact h.frame (by simp)
    · next m _ _ => exact ((h.commitMove c m).evaluate c).settle (some c)

/-- R123: an accepted reply is handed to the operation's owner. -/
theorem State.CkptLawful.handReply (c : Fin 4) (op : Op) (r : Reply) : (s.handReply c op r).CkptLawful := by
  unfold State.handReply
  split
  · exact State.CkptLawful.afterErase (h.frame (by simp)) c
  · exact State.CkptLawful.afterErase (h.frame (by simp)) c
  · exact h.copySucceeds c
  · exact h.frame (by simp)
  · exact h.frame (by simp)
  · exact h.slotErased c
  · exact (h.checkpointFails .erase false).reexamine.settle (some c)
  · exact h.checkpointSucceeds.reexamine.settle (some c)
  · exact (h.checkpointFails .program false).reexamine.settle (some c)
  · exact (h.readEnds _).settle (some c)
  · exact (h.readEnds _).settle (some c)
  · exact h.formatEraseDone.settle (some c)
  · exact (h.formatFails .erase).settle (some c)
  · exact h.frame (by simp)
  · exact (h.probeIdentifies c _).settle (some c)
  · exact h.frame (by simp)
  · exact h.restartIdentifies c _
  · exact h

theorem State.CkptLawful.replyArrives (c : Fin 4) (r : Reply) : (s.replyArrives c r).CkptLawful := by
  unfold State.replyArrives
  split
  · exact h.frame (by simp)
  · split
    · exact State.CkptLawful.handReply (h.frame (by simp)) c _ r
    · exact h.loseOperation c _ _ _

end

/-! ### Requests -/

/-- R157, R158: a request that has its effect is one that the device state admits. -/
theorem State.takeRequest_admitted (s : State) (k : ReqCode) (effect : Frame → State → State) :
    s.takeRequest k effect = s ∨
    ∃ f rest, (∃ st, s.takeRequest k effect = (s.taken rest).completePlain f st) ∨
      (admitted s.device k f.flag0 = true ∧ s.takeRequest k effect = effect f (s.taken rest)) := by
  unfold State.takeRequest
  split
  · exact .inl rfl
  · next f rest hin =>
    dsimp only
    split
    · exact .inr ⟨f, rest, .inl ⟨_, rfl⟩⟩
    · split
      · split
        · next st _ => exact .inr ⟨f, rest, .inl ⟨st, rfl⟩⟩
        · next hnone =>
          refine .inr ⟨f, rest, .inr ⟨?_, rfl⟩⟩
          by_contra hnot
          have hnot : admitted s.device k f.flag0 = false := by simpa using hnot
          unfold State.commonCheck at hnone
          split at hnone
          · cases hnone
          · simp [hnot] at hnone
      · exact .inl rfl

/-- R137: the states that admit the requests which change the checkpoint unit or the device state. -/
theorem admitted_control (d : DeviceState) (hold : Bool) :
    (admitted d .checkpoint hold = true ↔ d = .ready ∨ d = .service) ∧
    (admitted d .enterService hold = true ↔ d = .ready) ∧ (admitted d .leaveService hold = true ↔ d = .service) ∧
    (admitted d .format hold = true → d ≠ .starting) := by
  cases d with
  | failed cause => cases cause <;> simp [admitted, admittedAlways]
  | starting | unformatted | formatting | ready | service =>
    simp [admitted, admittedAlways, admittedUnformatted, admittedReady, admittedService]

section
variable {s : State} (h : s.CkptLawful)
include h

/-- R152, R153: READY and SERVICE change into each other without start-up and without a FORMAT. -/
theorem State.CkptLawful.setDevice {d : DeviceState} (hs : s.device = .ready ∨ s.device = .service)
    (hd : d = .ready ∨ d = .service) : (s.setDevice d).CkptLawful := by
  have hstarting : s.device ≠ .starting := by rintro he; simp [he] at hs
  have hnone : s.formatRec = none := h.no_format (by rintro he; simp [he] at hs)
  have hended : s.startup.stage = .ended := by simpa using mt h.device.1.2 hstarting
  have hd' : d ≠ .starting ∧ d ≠ .formatting := by obtain rfl | rfl := hd <;> simp
  exact ⟨⟨by simp [hd', hended], by simp [hd', hnone]⟩, h.ckpt.slot, h.ckpt.flight, by simp [hd'], by simp [hnone],
    by simp [hnone], by simp [hnone]⟩

/-- R96: a CHECKPOINT is refused, or starts a checkpoint. -/
theorem State.CkptLawful.checkpointEffect (hd : s.device = .ready ∨ s.device = .service) (f : Frame) :
    (checkpointEffect f s).CkptLawful := by
  unfold Machine.checkpointEffect
  split
  · exact h.frame (by simp)
  · split
    · exact h.frame (by simp)
    · split
      · exact h.frame (by simp)
      · next hgen => exact (h.startCheckpoint hd hgen _).settle none

/-- R146: a FORMAT starts with no checkpoint in flight and both slots still to be erased. -/
theorem State.CkptLawful.formatEffect (hd : s.device ≠ .starting) (f : Frame) : (formatEffect f s).CkptLawful := by
  have hended : s.startup.stage = .ended := by simpa using mt h.device.1.2 hd
  unfold Machine.formatEffect
  split
  · exact h.frame (by simp)
  · next hnone =>
    have hflight : s.ckpt.flight = none := by simpa using hnone
    have hstarted : ((s.setDevice .formatting).setFormatRec
        (some ⟨.host f.tag, f.argA, f.argB, f.flag0, s.device, .eraseB⟩)).CkptLawful :=
      ⟨by simp [DeviceInv, hended], h.ckpt.slot, by simp [hflight], by simp, by simp [hflight], by simp [hflight],
        by simp⟩
    exact (hstarted.placeFormatErase .b).settle none

theorem State.CkptLawful.lookupEffect (f : Frame) : (lookupEffect f s).CkptLawful := by
  unfold Machine.lookupEffect State.lookupHold State.answerLookup
  dsimp only
  split
  · split
    · exact h.frame (by simp)
    · split
      · exact h.frame (by simp)
      · split
        · exact h.frame (by simp)
        · refine (State.CkptLawful.afterAbandon (h.frame ?_) _).settle none
          simp
  · exact h.frame (by simp)

theorem State.CkptLawful.bindRequest (f : Frame) : (bindRequest f s).CkptLawful := by
  unfold Machine.bindRequest
  split
  · exact h.frame (by simp)
  · split
    · exact ((h.bindEffect _ _ _ _).afterAbandon _).settle none
    · split <;> exact h.frame (by simp)

theorem State.CkptLawful.unbindEffect (f : Frame) : (unbindEffect f s).CkptLawful := by
  unfold Machine.unbindEffect State.unbindLogical
  dsimp only
  split
  · exact h.frame (by simp)
  · refine ((State.CkptLawful.testTrigger (h.frame ?_) _).afterAbandon _).settle none
    simp

theorem State.CkptLawful.releaseEffect (f : Frame) : (releaseEffect f s).CkptLawful := by
  unfold Machine.releaseEffect
  split
  · exact h.frame (by simp)
  · refine (State.CkptLawful.testTrigger (h.frame ?_) _).settle none
    simp

theorem State.CkptLawful.answerRetire (f : Frame) : (s.answerRetire f).CkptLawful := by
  unfold State.answerRetire
  split <;> exact h.frame (by simp)

theorem State.CkptLawful.markRetirePending (g : Nat) : (s.markRetirePending g).CkptLawful :=
  h.frame (by simp [State.markRetirePending])

theorem State.CkptLawful.retireTarget (f : Frame) (g : Nat) : (s.retireTarget f g).CkptLawful := by
  unfold State.retireTarget
  split
  · exact (h.markRetirePending g).answerRetire f
  · next m _ =>
    split
    · refine ((State.CkptLawful.answerRetire (h.frame ?_) f).evaluate _).settle none
      simp
    · refine (State.CkptLawful.markRetirePending (h.frame ?_) g).answerRetire f
      simp
    · exact (h.markRetirePending g).answerRetire f

theorem State.CkptLawful.retireByState (f : Frame) (g : Nat) (u : UnitRec) : (s.retireByState f g u).CkptLawful := by
  have retired (t : State) (ht : t.CkptLawful) : ((t.retireUnit g .host).reexamineAndAnswer f).CkptLawful :=
    (State.CkptLawful.reexamine (ht.frame (by simp))).answerRetire f
  unfold State.retireByState
  split
  · exact h.frame (by simp)
  · exact retired s h
  · exact retired _ (h.frame (by simp))
  · exact retired s h
  · exact State.CkptLawful.answerRetire (h.frame (by simp)) f
  · exact (h.markRetirePending g).answerRetire f
  · split
    · exact h.answerRetire f
    · exact (((h.markRetirePending g).answerRetire f).evaluate _).settle none
  · exact h.retireTarget f g

theorem State.CkptLawful.retireEffect (f : Frame) : (retireEffect f s).CkptLawful := by
  unfold Machine.retireEffect
  split
  · exact h.retireByState f _ _
  · exact h.frame (by simp)

/-- R157: every request that the device state admits keeps the laws. -/
theorem State.CkptLawful.effectOf {k : ReqCode} {f : Frame} (hadm : admitted s.device k f.flag0 = true) :
    (effectOf k f s).CkptLawful := by
  obtain ⟨hcheckpoint, henter, hleave, hformat⟩ := admitted_control s.device f.flag0
  cases k with
  | lookup => exact h.lookupEffect f
  | bind => exact h.bindRequest f
  | unbind => exact h.unbindEffect f
  | move => simp only [Machine.effectOf, moveEffect]; (repeat' split) <;> exact h.frame (by simp)
  | release => exact h.releaseEffect f
  | renew => simp only [Machine.effectOf, renewEffect]; split <;> exact h.frame (by simp)
  | retire => exact h.retireEffect f
  | queryUnit => simp only [Machine.effectOf, queryEffect]; split <;> exact h.frame (by simp)
  | checkpoint => exact h.checkpointEffect (hcheckpoint.1 hadm) f
  | restartChannel =>
    simp only [Machine.effectOf, restartEffect, State.startRestart]; (repeat' split) <;> exact h.frame (by simp)
  | enterService =>
    have hready := henter.1 hadm
    simp only [Machine.effectOf, enterServiceEffect]
    split
    · exact h.frame (by simp)
    · split
      · exact h.frame (by simp)
      · exact (h.setDevice (.inl hready) (.inr rfl)).frame (by simp)
  | leaveService =>
    have hready : ((s.setDevice .ready).completePlain f .ok).CkptLawful :=
      (h.setDevice (.inr (hleave.1 hadm)) (.inl rfl)).frame (by simp)
    simp only [Machine.effectOf, leaveServiceEffect]
    exact (hready.evaluateAll _).settle none
  | format => exact h.formatEffect (hformat hadm) f
  | getParameter => simp only [Machine.effectOf, getParameterEffect]; split <;> exact h.frame (by simp)
  | setParameter => simp only [Machine.effectOf, setParameterEffect]; (repeat' split) <;> exact h.frame (by simp)
  | readCounter => simp only [Machine.effectOf, readCounterEffect]; split <;> exact h.frame (by simp)
  | clearCounters => exact h.frame (by simp [Machine.effectOf, clearCountersEffect])

theorem State.CkptLawful.taken (rest : List Frame) : (s.taken rest).CkptLawful := h.frame ⟨rfl, rfl, rfl, rfl⟩

theorem State.CkptLawful.takeRequest (k : ReqCode) : (s.takeRequest k (Machine.effectOf k)).CkptLawful := by
  obtain he | ⟨f, rest, ⟨st, he⟩ | ⟨hadm, he⟩⟩ := s.takeRequest_admitted k (Machine.effectOf k)
  · rwa [he]
  · rw [he]; exact (h.taken rest).frame (by simp)
  · rw [he]; exact (h.taken rest).effectOf hadm

/-! ### The other events -/

theorem State.CkptLawful.shiftOut (bs : List Byte) : (s.shiftOut bs).CkptLawful := h.frame ⟨rfl, rfl, rfl, rfl⟩

/-- R151: an orphaned FORMAT is at the step it was at. -/
theorem State.CkptLawful.orphanFormat : (s.setFormatRec (s.formatRec.map FormatRec.orphan)).CkptLawful := by
  refine ⟨by simpa [DeviceInv] using h.device, h.ckpt.slot, h.ckpt.flight, h.ckpt.starting, ?_, ?_, ?_⟩
  all_goals simp only [State.setFormatRec_formatRec, Option.map_eq_some_iff]
  · rintro _ ⟨f, hf, rfl⟩ hstep
    exact h.ckpt.early f hf hstep
  · rintro _ g ⟨f, hf, rfl⟩ hg
    exact h.ckpt.own f g hf hg
  · rintro _ ⟨f, hf, rfl⟩ hstep
    exact h.ckpt.late f hf hstep

/-- R110: an orphaned checkpoint writes what it was to write, and a FORMAT's stays the FORMAT's. -/
theorem State.CkptLawful.orphanAll : s.orphanAll.CkptLawful := by
  refine h.orphanFormat.flight_kept rfl rfl (fun f hf => ?_) ⟨rfl, rfl, rfl⟩
  obtain ⟨f', hf', rfl⟩ := Option.map_eq_some_iff.1 (show s.ckpt.flight.map Flight.orphan = some f from hf)
  refine ⟨f', hf', ?_⟩
  unfold Flight.orphan
  split <;> simp [*]

/-- R68, R168: the units that a LINK RESET releases may start an automatic checkpoint. -/
theorem State.CkptLawful.linkReset : s.linkReset.CkptLawful := by
  have horphan : (s.setLink Link.cleared).orphanAll.CkptLawful := State.CkptLawful.orphanAll (h.frame (by simp))
  have hremoved (t : State) (ht : t.CkptLawful) : t.removeAllHolds.CkptLawful := by
    unfold State.removeAllHolds
    exact State.CkptLawful.releaseAndTests (ht.frame (by simp)) _
  unfold State.linkReset
  exact ((hremoved _ horphan).frame (by simp)).settle none

end

theorem State.CkptLawful.reset (is : List Instr) : (State.reset.setPending is).CkptLawful :=
  ⟨by simp [DeviceInv, State.reset], by constructor <;> simp [State.reset]⟩

theorem IsEvent.exec_ckptLawful {i : Instr} {s t : State} (hi : IsEvent i) (hexec : exec i s = .next t)
    (h : s.CkptLawful) : t.CkptLawful := by
  cases hi with
  | hardwareReset => cases hexec; exact State.CkptLawful.reset _
  | resetNRelease =>
    cases hexec
    split
    · rw [issueResets_eq]; exact h.frame (by simp)
    · exact h
  | tick => cases hexec; exact State.whenRunning_of h (h.frame ⟨rfl, rfl, rfl, rfl⟩)
  | holdExpiry slot =>
    cases hexec
    refine State.whenRunning_of h ?_
    split
    · split
      · exact h.expireHold _ _
      · exact h
    · exact h
  | operationDeadline c =>
    cases hexec
    refine State.whenRunning_of h ?_
    split
    · split
      · exact h.loseOperation c _ _ _
      · exact h
    · exact h
  | request raw extra =>
    cases hexec
    refine State.CkptLawful.shiftOut (State.whenRunning_of h ?_) _
    unfold State.takeFrame
    split
    · exact h.frame (by simp)
    · exact h
  | fetch extra =>
    cases hexec
    exact State.CkptLawful.shiftOut (State.whenRunning_of h (h.frame ⟨rfl, rfl, rfl, rfl⟩)) _
  | status extra => cases hexec; exact h.shiftOut _
  | linkReset extra => cases hexec; exact State.CkptLawful.shiftOut (State.whenRunning_of h h.linkReset) _
  | transactionDiscarded d =>
    rw [exec, execTransactionDiscarded] at hexec
    split at hexec
    · cases hexec
      exact State.CkptLawful.shiftOut (State.whenRunning_of h (h.frame ⟨rfl, rfl, rfl, rfl⟩)) _
    · cases hexec
  | formatUnitReset =>
    cases hexec
    refine State.whenRunning_of h ?_
    split
    · next f hrec =>
      split
      · next hdue => exact h.unitReset hrec hdue
      · exact h
    · exact h

theorem exec_ckptLawful {i : Instr} {s t : State} (hexec : exec i s = .next t) (h : s.CkptLawful) : t.CkptLawful := by
  obtain hreply | ⟨k, rfl⟩ | hevent := command_kinds i
  · obtain ⟨⟨c, r⟩, hreply⟩ := Option.isSome_iff_exists.1 hreply
    rw [exec_of_replyOf hreply] at hexec
    cases hexec
    exact State.whenRunning_of h (h.replyArrives c r)
  · rw [exec_requestCommand] at hexec
    cases hexec
    exact State.whenRunning_of h (h.takeRequest k)
  · exact hevent.exec_ckptLawful hexec h

/-- Settles O46: the law of the checkpoint unit is kept together with that of the device states, by each kind of
command. -/
theorem checkpointStateKept : Obligations.CheckpointStateKept := by
  intro s t hdevice hckpt hstep
  have h : s.CkptLawful := ⟨hdevice, hckpt⟩
  unfold step at hstep
  split at hstep
  · cases hstep; exact hckpt
  · exact (exec_ckptLawful hstep (h.frame (by simp))).ckpt

end Sys2Proof.Machine

/-! SUPPORT. The start of a checkpoint and its slot erase's DONE: the place of a slot, the snapshot as R98 spells it, and
the arbiter of the channel whose operation has ended (R96 to R101, R120); with O42 and O44. -/
namespace Sys2Proof.Machine

/-! ### The target slot, its place, and the snapshot -/

theorem State.targetSlot_eq (s : State) : s.targetSlot = if s.ckpt.durableSlot = some .a then .b else .a := by
  unfold State.targetSlot
  split <;> simp [*]

/-- R97: the channel of a slot, and its index there. -/
theorem State.slot_place (s : State) (k : Slot) : (s.slotChannel k, s.slotIndex k) =
    if k = .a then (0, 0) else if (s.channels[(1 : Fin 4)]).unitCount = 0 then (0, 1) else (1, 0) := by
  cases k with
  | a => simp [State.slotChannel, State.slotIndex, State.slotUnit, Machine.slotUnit, chanOf, indexOf]
  | b =>
    have hcount : s.counts[(1 : Fin 4)] = (s.channels[(1 : Fin 4)]).unitCount := by simp [State.counts]
    rw [if_neg (by simp), State.slotChannel, State.slotIndex, State.slotUnit, Machine.slotUnit, hcount]
    split <;> rfl

theorem State.slotChannel_of_counts {s t : State} (h : t.counts = s.counts) (k : Slot) :
    t.slotChannel k = s.slotChannel k := by simp [State.slotChannel, State.slotUnit, h]

theorem State.slotIndex_of_counts {s t : State} (h : t.counts = s.counts) (k : Slot) :
    t.slotIndex k = s.slotIndex k := by simp [State.slotIndex, State.slotUnit, h]

/-- R114: the unit count of a channel, by its state. -/
theorem Channel.unitCount_eq (ch : Channel) : ch.unitCount =
    match ch.state with | .online => ch.count | .faulted => ch.count | .restarting => ch.count | _ => 0 := by
  cases hst : ch.state <;> simp [Channel.unitCount, Channel.present, hst]

/-- R98: what a snapshot records of a unit, by its state. -/
theorem recordUnit_eq (u : UnitRec) : recordUnit u =
    match u.state with
    | .bound n => ⟨.bound n, u.wear, u.retirePending⟩
    | .retired cause => ⟨.retired cause, u.wear, false⟩
    | .erasing => ⟨.free, u.wear, u.retirePending⟩
    | .target _ => ⟨.free, u.wear, u.retirePending⟩
    | _ => ⟨.free, u.wear, false⟩ := by
  unfold recordUnit
  cases u.state <;> rfl

/-! ### CHECKPOINT -/

/-- R96: a CHECKPOINT that meets none of its refusals starts the checkpoint. -/
theorem checkpointEffect_starts {s : State} (f : Frame) (hflight : s.ckpt.flight = none)
    (hon : s.online (s.slotChannel s.targetSlot) = true) (hgen : s.ckpt.durableGen ≠ 0xFFFFFFFF) :
    checkpointEffect f s = (s.startCheckpoint (.host f.tag)).settle none := by
  rw [checkpointEffect, hflight, hon, if_neg (by simp), if_neg (by simp), if_neg hgen]

/-- R97, R98, R100: a checkpoint that starts on its ONLINE target channel, with its snapshot spelled out. -/
theorem State.startCheckpoint_spelled {s : State} {k : Slot} {c : Fin 4} {i : Nat} (o : CkptOrigin)
    (hk : s.targetSlot = k) (hplace : (s.slotChannel k, s.slotIndex k) = (c, i))
    (hon : s.channels[c].state = .online) : s.startCheckpoint o = { s with
      ckpt := { s.ckpt with flight := some ⟨.erasingSlot, o, k, s.takeSnapshot k⟩ }
      channels := s.channels.set c { s.channels[c] with pendingImage := some ⟨.erase i, .checkpoint⟩ } } := by
  obtain ⟨rfl, rfl⟩ := Prod.mk.inj hplace
  subst hk
  exact s.startCheckpoint_online o ((s.online_iff _).2 hon)

/-- Settles O42: the request passes the checks of R96 one by one, and the checkpoint starts on its ONLINE channel. -/
theorem checkpointIsAccepted : Obligations.CheckpointIsAccepted := by
  intro s f rest hp hflight hgen k place counts record hon
  have hk : (s.taken rest).targetSlot = k := s.targetSlot_eq
  have hplace : ((s.taken rest).slotChannel k, (s.taken rest).slotIndex k) = place := s.slot_place k
  have honline : (s.taken rest).online ((s.taken rest).slotChannel (s.taken rest).targetSlot) = true := by
    rw [hk, (Prod.mk.inj hplace).1]; exact (s.online_iff _).2 hon
  have hsnap : (s.taken rest).takeSnapshot k = ⟨s.ckpt.durableGen + 1, k, counts, s.map.map (·.generation), s.params,
      s.units.map fun p => (p.1, record p.2)⟩ := by
    have hcounts : s.counts = counts := congrArg (Vector.map · s.channels) (funext Channel.unitCount_eq)
    have hrecord : recordUnit = record := funext recordUnit_eq
    rw [← hcounts, ← hrecord]; rfl
  have hstart := checkpointEffect_starts (s := s.taken rest) f hflight honline hgen
  rw [State.startCheckpoint_spelled _ hk hplace hon, hsnap] at hstart
  exact (exec_of_passes hp).trans (congrArg _ hstart)

/-! ### The arbiter after an operation -/

/-- R120: the arbiter of one channel leaves the others alone. -/
theorem State.arbitrate_channels_ne (s : State) {c d : Fin 4} (ended : Bool) (h : d ≠ c) :
    (s.arbitrate d ended).channels[c] = s.channels[c] := by
  have hne : d.val ≠ c.val := fun e => h (Fin.ext e)
  unfold State.arbitrate
  split
  · split
    · next w _ => cases w <;> simp [State.issueWork, State.issueOp, State.setPendingImage, State.setChannel, hne]
    · rfl
  · rfl

/-- R120, R121: after the end of an operation a pending image operation goes first. -/
theorem State.arbitrate_image {s : State} {c : Fin 4} {w : ImageWork} (hon : s.channels[c].state = .online)
    (hidle : s.channels[c].inFlight = none) (hw : s.channels[c].pendingImage = some w)
    (hallowed : s.imagesAllowed = true) : (s.arbitrate c true).channels[c] =
      { s.channels[c] with inFlight := some ⟨w.kind, w.owner, s.tick⟩, pendingImage := none } := by
  have hwork : s.imageWork c = some (.image w) := by simp only [State.imageWork, hallowed, hw]; rfl
  have hchoice : s.chooseWork c true = some (.image w) := by
    unfold State.chooseWork
    rw [hwork]
    split <;> simp_all
  have hissue : s.arbitrate c true = s.issueWork c (.image w) := by
    simp only [State.arbitrate, (s.online_iff c).2 hon, hidle, hchoice]; rfl
  rw [hissue]
  simp [State.issueWork, State.issueOp, State.setPendingImage, State.setChannel]

theorem State.imagesAllowed_of_device {s t : State} (h : t.device = s.device) : t.imagesAllowed = s.imagesAllowed := by
  simp only [State.imagesAllowed, h]

/-- R120: of several arbiters, each its own channel's, that of the channel whose operation ended issues the pending
image operation there. -/
theorem arbitrateAll_image {c : Fin 4} {cs : List (Fin 4)} (hnd : cs.Nodup) (hc : c ∈ cs) {s : State} {w : ImageWork}
    (hon : s.channels[c].state = .online) (hidle : s.channels[c].inFlight = none)
    (hw : s.channels[c].pendingImage = some w) (hallowed : s.imagesAllowed = true) :
    (cs.foldl (fun t d => t.arbitrate d (decide (some c = some d))) s).channels[c] =
      { s.channels[c] with inFlight := some ⟨w.kind, w.owner, s.tick⟩, pendingImage := none } := by
  have others (ds : List (Fin 4)) (hds : c ∉ ds) (t : State) :
      (ds.foldl (fun t d => t.arbitrate d (decide (some c = some d))) t).channels[c] = t.channels[c] := by
    induction ds generalizing t with
    | nil => rfl
    | cons d ds ih =>
      rw [List.mem_cons, not_or] at hds
      exact (ih hds.2 _).trans (t.arbitrate_channels_ne _ (Ne.symm hds.1))
  induction cs generalizing s with
  | nil => cases hc
  | cons d cs ih =>
    obtain ⟨hd, hnd⟩ := List.nodup_cons.1 hnd
    rw [List.foldl_cons]
    by_cases hdc : d = c
    · subst hdc
      rw [others cs hd, decide_eq_true rfl]
      exact State.arbitrate_image hon hidle hw hallowed
    · have hch := s.arbitrate_channels_ne (decide (some c = some d)) hdc
      rw [ih hnd ((List.mem_cons.1 hc).resolve_left (Ne.symm hdc)) (by rwa [hch]) (by rwa [hch]) (by rwa [hch])
        ((State.imagesAllowed_of_device (by simp)).trans hallowed), hch]
      simp

theorem State.settle_image {s : State} {c : Fin 4} {w : ImageWork} (hon : s.channels[c].state = .online)
    (hidle : s.channels[c].inFlight = none) (hw : s.channels[c].pendingImage = some w)
    (hallowed : s.imagesAllowed = true) : (s.settle (some c)).channels[c] =
      { s.channels[c] with inFlight := some ⟨w.kind, w.owner, s.tick⟩, pendingImage := none } :=
  arbitrateAll_image (List.nodup_finRange 4) (List.mem_finRange c) hon hidle hw hallowed

/-! ### The DONE reply to the slot erase -/

/-- R101: the checkpoint goes on to write its image, on the ONLINE channel of its target slot. -/
theorem State.slotErased_of_flight {s : State} {c : Fin 4} {fl : Flight} (hfl : s.ckpt.flight = some fl)
    (hc : c = s.slotChannel fl.target) (hon : s.channels[c].state = .online) : s.slotErased c =
      ((s.setCkpt { s.ckpt with unconfirmed := [], flight := some { fl with phase := .writing } }).setPendingImage c
        (some ⟨.writeImage (s.slotIndex fl.target) fl.snapshot.image, .checkpoint⟩)).settle (some c) := by
  subst hc
  simp only [State.slotErased, hfl]
  exact congrArg (State.settle · _) (if_pos ((s.online_iff _).2 hon))

/-- Settles O44: the erase leaves the record, the WRITE IMAGE is placed, and the arbiter issues it. -/
theorem slotEraseDonePlacesTheWrite : Obligations.SlotEraseDonePlacesTheWrite := by
  intro s c op i fl hrun hop howner hkind hfl hc hon
  have hfly : s.flying c = some (.checkpoint, .erase i) := Option.map_eq_some_iff.2 ⟨op, hop, by rw [howner, hkind]⟩
  have hcounts := s.endOp_counts c
  have hexec : exec (.slotEraseDone c) s = .next ((s.endOp c).slotErased c) := by
    simp [exec, execSlotEraseDone, State.whenRunning, hrun, hfly]
  rw [State.slotErased_of_flight (s := s.endOp c) hfl (by rw [State.slotChannel_of_counts hcounts, hc])
    (by simpa using hon), State.slotIndex_of_counts hcounts] at hexec
  refine ⟨hexec.trans ?_, fun hd => ⟨_, hexec, ?_⟩⟩
  · simp [State.setPendingImage, State.setChannel, State.endOp, State.setCkpt, State.setChannels]
  · let w : ImageWork := ⟨.writeImage (s.slotIndex fl.target) fl.snapshot.image, .checkpoint⟩
    let s3 := ((s.endOp c).setCkpt { s.ckpt with
      unconfirmed := [], flight := some { fl with phase := .writing } }).setPendingImage c (some w)
    have hch : s3.channels[c] = { s.channels[c] with inFlight := none, pendingImage := some w } := by
      simp [s3, State.setPendingImage, State.setChannel]
    have hallowed : s3.imagesAllowed = true := by obtain hd | hd | hd := hd <;> simp [State.imagesAllowed, s3, hd]
    have hissued := State.settle_image (s := s3) (c := c) (by rw [hch]; exact hon) (by rw [hch]) (by rw [hch]) hallowed
    rw [hch] at hissued
    exact ⟨congrArg Channel.inFlight hissued, congrArg Channel.pendingImage hissued⟩

end Sys2Proof.Machine

/-! SUPPORT. The end of a checkpoint: the sorting of the commit-wait set, the counters and the report (R104 to R109,
R149, R150); with O45. -/
namespace Sys2Proof.Machine

/-! ### Units that become DIRTY, one after another -/

theorem dirtyTails_units (gs : List Nat) (s : State) : (gs.foldl State.dirtyTail s).units =
    s.units.map fun p => if p.1 ∈ gs then (p.1, { p.2 with state := .dirty }) else p := by
  induction gs generalizing s with
  | nil => simp
  | cons g gs ih =>
    rw [List.foldl_cons, ih, State.dirtyTail_units, modifyIn, List.map_map]
    refine List.map_congr_left fun p _ => ?_
    by_cases hg : p.1 = g <;> by_cases hgs : p.1 ∈ gs <;> simp_all

/-- R36: each unit joins the tail of its channel's erase queue. -/
theorem dirtyTails_eraseQueues (gs : List Nat) (s : State) (d : Fin 4) : (gs.foldl State.dirtyTail s).eraseQueues[d] =
    s.eraseQueues[d] ++ gs.filter fun g => chanOf g == d := by
  induction gs generalizing s with
  | nil => simp
  | cons g gs ih =>
    rw [List.foldl_cons, ih, State.dirtyTail_eraseQueues, List.filter_cons]
    by_cases hg : chanOf g = d
    · subst hg; simp
    · have hne : (chanOf g).val ≠ d.val := fun e => hg (Fin.ext e)
      simp [hg, hne]

/-! ### The units that leave the commit-wait set -/

/-- R105: the unit is WAITING, and neither BOUND set of the checkpoint unit holds it. -/
def Ckpt.lets (k : Ckpt) (p : Nat × UnitRec) : Bool :=
  p.2.state.isWaiting && !k.durableBound.contains p.1 && !k.unconfirmed.contains p.1

theorem State.leavingUnits_eq (s : State) : s.leavingUnits = (s.units.filter s.ckpt.lets).map (·.1) := by
  rw [State.leavingUnits, State.commitWait, State.unitsWhere, List.filter_map, List.filter_filter]
  congr 1
  refine List.filter_congr fun p _ => ?_
  simp [Ckpt.lets, Function.comp, Bool.and_comm, Bool.and_left_comm, Bool.and_assoc]

/-- R25, R105: with distinct numbers, a unit of the table leaves when its own record is one of those that leave. -/
theorem State.mem_leavingUnits {s : State} (hkeys : s.keysLawful = true) {p : Nat × UnitRec} (hp : p ∈ s.units) :
    p.1 ∈ s.leavingUnits ↔ s.ckpt.lets p = true := by
  rw [State.leavingUnits_eq, List.mem_map]
  constructor
  · rintro ⟨q, hq, he⟩
    obtain ⟨hq, hlets⟩ := List.mem_filter.1 hq
    have hnd := State.keys_nodup hkeys
    have hrec := ((mem_iff_unitIn hnd q.1 q.2).1 hq).symm.trans (he ▸ (mem_iff_unitIn hnd p.1 p.2).1 hp)
    obtain rfl : q = p := Prod.ext he (Option.some.inj hrec)
    exact hlets
  · exact fun hlets => ⟨p, List.mem_filter.2 ⟨hp, hlets⟩, rfl⟩

theorem State.sortCommitWait_units {s : State} (hkeys : s.keysLawful = true) : s.sortCommitWait.units =
    s.units.map fun p => if s.ckpt.lets p = true then (p.1, { p.2 with state := .dirty }) else p := by
  rw [State.sortCommitWait, dirtyTails_units]
  exact List.map_congr_left fun p hp => by simp only [State.mem_leavingUnits hkeys hp]

theorem State.sortCommitWait_eraseQueues (s : State) (d : Fin 4) : s.sortCommitWait.eraseQueues[d] =
    s.eraseQueues[d] ++ (s.units.filter fun p => s.ckpt.lets p && (chanOf p.1 == d)).map (·.1) := by
  rw [State.sortCommitWait, dirtyTails_eraseQueues, State.leavingUnits_eq, List.filter_map, List.filter_filter]
  congr 3
  funext p
  exact Bool.and_comm _ _

/-- R51, R105: a unit that leaves was not RETIRED and does not become it. -/
theorem State.sortCommitWait_spareCount {s : State} (hkeys : s.keysLawful = true) :
    s.sortCommitWait.spareCount = s.spareCount := by
  refine State.spareCount_of_counts (by simp [State.counts]) ?_ (by simp)
  simp only [State.retiredSet, State.unitsWhere_length, State.sortCommitWait_units hkeys, List.countP_map]
  refine List.countP_congr fun p _ => ?_
  dsimp only [Function.comp]
  split
  · next hlets =>
    have hwaiting : p.2.state = .waiting := by
      simp only [Ckpt.lets, Bool.and_eq_true, UnitState.isWaiting, decide_eq_true_eq] at hlets
      exact hlets.1.1
    simp [hwaiting, UnitState.isRetired]
  · rfl

/-! ### The end of a checkpoint -/

/-- R104 to R106: the checkpoint unit becomes `k`, the commit-wait set is sorted, the outcome is counted and told. -/
def State.checkpointEnds (s : State) (k : Ckpt) (counter : Counter) (fl : Flight) (st : Status) (why : CkptReason) :
    State :=
  ((s.setCkpt k).sortCommitWait.count counter).reportCheckpoint fl st why (s.units.filter k.lets).length

theorem State.checkpointEnds_eq (s : State) (k : Ckpt) (counter : Counter) (fl : Flight) (st : Status)
    (why : CkptReason) : s.checkpointEnds k counter fl st why =
      ((s.setCkpt k).sortCommitWait.count counter).reportCheckpoint fl st why (s.setCkpt k).leavingUnits.length := by
  rw [State.leavingUnits_eq, List.length_map]; rfl

theorem State.checkpointSucceeds_of_flight {s : State} {fl : Flight} (hfl : s.ckpt.flight = some fl) :
    s.checkpointSucceeds = s.checkpointEnds ⟨fl.snapshot.generation, some fl.target, fl.snapshot.bound,
      s.ckpt.unconfirmed, none⟩ .checkpointsCompleted fl .ok .none := by
  simp only [State.checkpointSucceeds, hfl, State.checkpointEnds_eq]

theorem State.checkpointFails_of_flight {s : State} {fl : Flight} (hfl : s.ckpt.flight = some fl) (why : CkptReason) :
    s.checkpointFails why false =
      s.checkpointEnds { s.ckpt with flight := none } .checkpointsFailed fl .checkpointFailed why := by
  simp only [State.checkpointFails, hfl, State.checkpointEnds_eq]
  rfl

section
variable (s : State) (k : Ckpt) (counter : Counter) (fl : Flight) (st : Status) (why : CkptReason)

@[simp] theorem State.checkpointEnds_frame :
    (s.checkpointEnds k counter fl st why).pending = s.pending ∧
    (s.checkpointEnds k counter fl st why).resetLow = s.resetLow ∧
    (s.checkpointEnds k counter fl st why).miso = s.miso ∧ (s.checkpointEnds k counter fl st why).tick = s.tick ∧
    (s.checkpointEnds k counter fl st why).startup = s.startup ∧
    (s.checkpointEnds k counter fl st why).params = s.params ∧ (s.checkpointEnds k counter fl st why).map = s.map ∧
    (s.checkpointEnds k counter fl st why).waiters = s.waiters ∧
    (s.checkpointEnds k counter fl st why).holds = s.holds ∧ (s.checkpointEnds k counter fl st why).moves = s.moves ∧
    (s.checkpointEnds k counter fl st why).channels = s.channels ∧
    (s.checkpointEnds k counter fl st why).ckpt = k := by simp [State.checkpointEnds]

theorem State.checkpointEnds_units {s : State} (hkeys : s.keysLawful = true) :
    (s.checkpointEnds k counter fl st why).units =
      s.units.map fun p => if k.lets p = true then (p.1, { p.2 with state := .dirty }) else p := by
  have hsorted : (s.checkpointEnds k counter fl st why).units = (s.setCkpt k).sortCommitWait.units := by
    simp [State.checkpointEnds]
  exact hsorted.trans (State.sortCommitWait_units (s := s.setCkpt k) hkeys)

theorem State.checkpointEnds_eraseQueues (d : Fin 4) : (s.checkpointEnds k counter fl st why).eraseQueues[d] =
    s.eraseQueues[d] ++ (s.units.filter fun p => k.lets p && (chanOf p.1 == d)).map (·.1) := by
  simpa [State.checkpointEnds] using (s.setCkpt k).sortCommitWait_eraseQueues d

/-- R109: a notice merged into a pending one is all that the report may count. -/
theorem State.reportCheckpoint_counter (n : Nat) {j : Counter} (hj : j ≠ .noticesCoalesced) :
    (s.reportCheckpoint fl st why n).counter j = s.counter j := by
  unfold State.reportCheckpoint
  split
  · exact State.counter_of_counters (by simp) j
  · exact s.post_counter _ _ hj
  · split <;> exact State.counter_of_counters (by simp) j
  · rfl

theorem State.checkpointEnds_counted : Counted s (s.checkpointEnds k counter fl st why) fun j =>
    if j = counter then 1 else 0 := by
  intro j hj
  rw [State.checkpointEnds, State.reportCheckpoint_counter _ _ _ _ _ hj, State.count_counted _ _ j hj]
  exact congrArg (· + _) (State.counter_of_counters (by simp) j)

theorem State.checkpointEnds_sameControl (h : fl.origin ≠ .format) :
    s.SameControl (s.checkpointEnds k counter fl st why) := by
  have hreport (t : State) (n : Nat) : (t.reportCheckpoint fl st why n).device = t.device ∧
      (t.reportCheckpoint fl st why n).formatRec = t.formatRec := by
    unfold State.reportCheckpoint
    split <;> simp_all
  refine ⟨by simp, by simp, by simp, by simp, ?_, by simp, ?_, by simp⟩ <;> simp [State.checkpointEnds, hreport]

/-- R108: a host's checkpoint completes its request. -/
theorem State.checkpointEnds_host {tag : Byte} (h : fl.origin = .host tag) (hopen : tag ∈ s.link.openTags) :
    (s.checkpointEnds k counter fl st why).link = s.link.complete tag
      (checkpointRecord tag st fl.snapshot.generation fl.target why (s.units.filter k.lets).length) := by
  simp only [State.checkpointEnds, State.reportCheckpoint, h]
  rw [State.complete_of_open (by simpa using hopen)]
  simp

theorem State.checkpointEnds_auto (h : fl.origin = .auto) : (s.checkpointEnds k counter fl st why).link =
    s.link.post .checkpointResult
      (checkpointResultNotice st fl.snapshot.generation fl.target why (s.units.filter k.lets).length) := by
  simp [State.checkpointEnds, State.reportCheckpoint, h, State.post_link]

theorem State.checkpointEnds_orphaned (h : fl.origin = .orphaned) :
    (s.checkpointEnds k counter fl st why).link = s.link := by
  simp [State.checkpointEnds, State.reportCheckpoint, h]

/-- R149, R150: a FORMAT's checkpoint ends the FORMAT. -/
theorem State.checkpointEnds_format (h : fl.origin = .format) {fr : FormatRec} (hfr : s.formatRec = some fr) :
    (s.checkpointEnds k counter fl st why).formatRec = none ∧
    (s.checkpointEnds k counter fl st why).device = if st = .ok then .ready else .failed .slot := by
  simp only [State.checkpointEnds, State.reportCheckpoint, h]
  split <;> simp [hfr]

/-- R149, R150: the FORMAT's own report, by its origin. -/
theorem State.checkpointEnds_format_link {s : State} (hkeys : s.keysLawful = true) (h : fl.origin = .format)
    {fr : FormatRec} (hfr : s.formatRec = some fr) :
    (fr.origin = .orphaned → (s.checkpointEnds k counter fl st why).link = s.link) ∧
    (∀ tag, fr.origin = .host tag → tag ∈ s.link.openTags →
      (s.checkpointEnds k counter fl st why).link = s.link.complete tag
        (if st = .ok then formatRecord tag fr.l fr.sMin (usableUnits s.counts).length s.spareCount
          else formatFailedRecord tag why.toFormat fr.step)) := by
  let s2 := (s.setCkpt k).sortCommitWait.count counter
  have hlink : s2.link = s.link := by simp [s2]
  have hrec : s2.formatRec = some fr := by simpa [s2] using hfr
  have hcounts : s2.counts = s.counts := by simp [State.counts, s2]
  have hspare : s2.spareCount = s.spareCount :=
    (State.spareCount_of_tables (by simp [s2]) (by simp [s2]) (by simp [s2])).trans
      (State.sortCommitWait_spareCount (s := s.setCkpt k) hkeys)
  have hend : s.checkpointEnds k counter fl st why =
      if st = .ok then s2.formatSucceeds else s2.formatFails why.toFormat := by
    simp only [State.checkpointEnds, State.reportCheckpoint, h, s2]
  rw [hend, ← hlink, ← hcounts, ← hspare]
  refine ⟨fun ho => ?_, fun tag ho hopen => ?_⟩
  · split
    · simp [State.formatSucceeds, hrec, ho]
    · simp [State.formatFails, hrec, ho]
  · split
    · simp only [State.formatSucceeds, hrec, ho]
      rw [State.complete_of_open (by simpa using hopen)]
      rfl
    · simp only [State.formatFails, hrec, ho]
      rw [State.complete_of_open (by simpa using hopen)]
      rfl

end

/-! ### The replies -/

/-- R123: the replies to a checkpoint's operation in flight are the checkpoint unit's. -/
theorem exec_checkpointReplies {s : State} {c : Fin 4} {op : Op} (hrun : s.resetLow = false)
    (hop : s.channels[c].inFlight = some op) (howner : op.owner = .checkpoint) :
    (∀ i, op.kind = .erase i → exec (.slotEraseFail c) s = .next ((s.endOp c).slotEraseFails c)) ∧
    (∀ i bs, op.kind = .writeImage i bs → exec (.writeImageDone c) s = .next ((s.endOp c).imageWritten c) ∧
      exec (.writeImageFail c) s = .next ((s.endOp c).imageWriteFails c)) := by
  have hfly (k : OpKind) (hkind : op.kind = k) : s.flying c = some (.checkpoint, k) :=
    Option.map_eq_some_iff.2 ⟨op, hop, by rw [howner, hkind]⟩
  refine ⟨fun i hkind => ?_, fun i bs hkind => ?_⟩
  · simp [exec, execSlotEraseFail, State.whenRunning, hrun, hfly _ hkind]
  · simp [exec, execWriteImageDone, execWriteImageFail, State.whenRunning, hrun, hfly _ hkind]

/-- Settles O45: the three ends are one, but for what becomes of the checkpoint unit, the counter and the report. -/
theorem checkpointEndSortsTheWaiting : Obligations.CheckpointEndSortsTheWaiting := by
  intro s c op fl hrun hlaw hop howner hfl ends
  have hkeys : (s.endOp c).keysLawful = true := State.endOp_keysLawful (State.lawful_keys hlaw) c
  have key (i : Instr) (k : Ckpt) (counter : Counter) (st : Status) (why : CkptReason) (done failed : Nat)
      (hexec : exec i s = .next ((((s.endOp c).checkpointEnds k counter fl st why).reexamine).settle (some c)))
      (hcount : ∀ j, (if j = counter then 1 else 0) =
        (match j with | .checkpointsCompleted => done | .checkpointsFailed => failed | _ => 0))
      (hwhy : st ≠ .ok → why.toFormat = if why = .program then .program else .erase) :
      ends i k st why done failed := by
    refine ⟨_, hexec, by simp, State.checkpointEnds_units _ _ _ _ _ hkeys,
      State.checkpointEnds_eraseQueues _ _ _ _ _ _, by simp, by simp, by simp, by simp, by simp, by simp, by simp,
      ((State.checkpointEnds_counted _ _ _ _ _ _).of_counters_left (by simp)).congr fun j => ?_,
      fun ho => ?_, fun tag ho hopen => State.checkpointEnds_host _ _ _ _ _ _ ho hopen,
      fun ho => State.checkpointEnds_auto _ _ _ _ _ _ ho, fun ho => State.checkpointEnds_orphaned _ _ _ _ _ _ ho,
      fun fr ho hfr => ?_⟩
    · exact (hcount j).trans (by cases j <;> rfl)
    · simpa [State.SameControl] using (s.endOp c).checkpointEnds_sameControl k counter fl st why ho
    · obtain ⟨hrec, hdevice⟩ := (s.endOp c).checkpointEnds_format k counter fl st why ho hfr
      obtain ⟨horphaned, hhost⟩ := State.checkpointEnds_format_link k counter fl st why hkeys ho hfr
      refine ⟨hrec, hdevice, horphaned, fun tag hto hopen => (hhost tag hto hopen).trans ?_⟩
      rw [State.endOp_counts, State.endOp_spareCount]
      by_cases hst : st = .ok
      · rw [if_pos hst, if_pos hst]; rfl
      · rw [if_neg hst, if_neg hst, hwhy hst]; rfl
  obtain ⟨herase, hwrite⟩ := exec_checkpointReplies hrun hop howner
  have hfl' : (s.endOp c).ckpt.flight = some fl := hfl
  refine ⟨fun i hkind => key _ _ .checkpointsFailed _ _ _ _ ?_ (fun j => by cases j <;> rfl)
      (by simp [CkptReason.toFormat]),
    fun i bs hkind => ⟨key _ _ .checkpointsCompleted _ _ _ _ ?_ (fun j => by cases j <;> rfl) (by simp),
      key _ _ .checkpointsFailed _ _ _ _ ?_ (fun j => by cases j <;> rfl) (by simp [CkptReason.toFormat])⟩⟩
  · rw [herase i hkind, State.slotEraseFails, State.checkpointFails_of_flight hfl']; rfl
  · rw [(hwrite i bs hkind).1, State.imageWritten, State.checkpointSucceeds_of_flight hfl']; rfl
  · rw [(hwrite i bs hkind).2, State.imageWriteFails, State.checkpointFails_of_flight hfl']; rfl

end Sys2Proof.Machine

/-! SUPPORT. The checkpoint image written and read back: byte fields, the geometry, the unit records, the header, the
tests of start-up and the load (R2, R27, R114, R115, R140, R141, R143); with O43. -/
namespace Sys2Proof.Machine

/-! ### Byte fields -/

@[simp] theorem join16_bytes (w : Word16) : join16 (lo8 w) (hi8 w) = w :=
  (BitVec.extractLsb'_append_extractLsb'_eq_extractLsb' rfl).trans BitVec.extractLsb'_eq_self

@[simp] theorem join32_words (w : Word32) : join32 (loWord w) (hiWord w) = w :=
  (BitVec.extractLsb'_append_extractLsb'_eq_extractLsb' rfl).trans BitVec.extractLsb'_eq_self

@[simp] theorem le16_length (w : Word16) : (le16 w).length = 2 := rfl

@[simp] theorem le32_length (w : Word32) : (le32 w).length = 4 := rfl

theorem byteAt_append_right (bs cs : List Byte) (i : Nat) : byteAt (bs ++ cs) (bs.length + i) = byteAt cs i := by
  rw [byteAt, List.getD_append_right _ _ _ _ (Nat.le_add_right _ _), Nat.add_sub_cancel_left, byteAt]

/-- A 32-bit field at the end of a byte list. -/
theorem word32At_append (bs : List Byte) (w : Word32) : word32At (bs ++ le32 w) bs.length = w := by
  have hfirst : byteAt (bs ++ le32 w) bs.length = byteAt (le32 w) 0 := byteAt_append_right bs (le32 w) 0
  simp only [word32At, word16At, Nat.add_assoc, byteAt_append_right, hfirst]
  simp [byteAt, le32, le16]

/-- Words written one after another are read back. -/
theorem rawWords_flatMap (ws : List Word16) (rest : List Byte) :
    rawWords ws.length (ws.flatMap le16 ++ rest) = ws := by
  induction ws with
  | nil => simp [rawWords]
  | cons w ws ih => simpa [rawWords, le16] using ih

theorem flatMap_le16_length (ws : List Word16) : (ws.flatMap le16).length = 2 * ws.length := by
  simp [List.length_flatMap, Nat.mul_comm]

/-- A 16-bit field holds a count of the part. -/
theorem toNat_word16 {n : Nat} (h : n < 65536) : (BitVec.ofNat 16 n).toNat = n := by
  rw [BitVec.toNat_ofNat, Nat.mod_eq_of_lt h]

/-! ### The geometry -/

theorem counts_toList (v : Vector Nat 4) : v.toList = [v[0], v[1], v[2], v[3]] := by
  obtain ⟨⟨l⟩, h⟩ := v
  match l, h with
  | [a, b, c, d], _ => rfl

theorem unitsOfCounts_length (counts : Vector Nat 4) : (unitsOfCounts counts).length = counts.toList.sum := by
  simp [unitsOfCounts, counts_toList, List.finRange_succ]

/-- Units of channels with at most 1024 units have distinct global numbers. -/
theorem unitsOfCounts_nodup {counts : Vector Nat 4} (h : ∀ c : Fin 4, counts[c] ≤ 1024) :
    (unitsOfCounts counts).Nodup := by
  refine List.nodup_flatMap.2 ⟨fun c _ => ?_, (List.nodup_finRange 4).imp fun {c d} hcd => ?_⟩
  · exact List.nodup_range.map fun i j hij => by simpa [globalOf] using hij
  · rw [Function.onFun, List.disjoint_left]
    intro g hc hd
    obtain ⟨i, hi, rfl⟩ := List.mem_map.1 hc
    obtain ⟨j, hj, he⟩ := List.mem_map.1 hd
    have hi := List.mem_range.1 hi
    have hj := List.mem_range.1 hj
    have := h c
    have := h d
    refine hcd (Fin.ext ?_)
    simp only [globalOf] at he
    omega

/-! ### Unit records -/

/-- R114: the six bytes of a unit record. -/
def RawUnit.bytes (r : RawUnit) : List Byte := [r.state, r.info] ++ le16 r.wear ++ le16 r.owner

/-- R115: the record of a slot. -/
def slotRaw : RawUnit := ⟨3, 0, 0, 0xFFFF⟩

/-- R114: the record of a usable unit. -/
def RecUnit.raw (u : RecUnit) : RawUnit :=
  ⟨u.state.code, BitVec.ofBool u.retirePending ++ 0#4 ++ u.state.causeCode, u.wear, u.state.ownerWord⟩

/-- R115: the record that the image of a snapshot gives to a present unit. -/
def Snapshot.rawAt (k : Snapshot) (g : Nat) : RawUnit :=
  if isSlotUnit k.counts g then slotRaw else ((k.units.lookup g).getD ⟨.free, 0, false⟩).raw

theorem Snapshot.unitBytes_eq (k : Snapshot) (g : Nat) : k.unitBytes g = (k.rawAt g).bytes := by
  unfold Snapshot.unitBytes Snapshot.rawAt
  split
  · rfl
  · cases k.units.lookup g <;> rfl

@[simp] theorem Snapshot.unitBytes_length (k : Snapshot) (g : Nat) : (k.unitBytes g).length = 6 := by
  rw [Snapshot.unitBytes_eq]; rfl

/-- Records written one after another are read back. -/
theorem rawUnits_flatMap (k : Snapshot) (gs : List Nat) (rest : List Byte) :
    rawUnits gs (gs.flatMap k.unitBytes ++ rest) = gs.map fun g => (g, k.rawAt g) := by
  induction gs with
  | nil => simp [rawUnits]
  | cons g gs ih => simpa [rawUnits, Snapshot.unitBytes_eq, RawUnit.bytes, le16] using ih

/-- The bits of a record's information byte. -/
theorem info_bits (b : Bool) (cause : BitVec 3) :
    ((BitVec.ofBool b ++ 0#4 ++ cause) &&& 0x78 == 0) = true ∧
    ((BitVec.ofBool b ++ 0#4 ++ cause) &&& 7).toNat = cause.toNat ∧
    (BitVec.ofBool b ++ 0#4 ++ cause).getLsbD 7 = b := by
  revert b cause; decide

section
variable (u : RecUnit)

@[simp] theorem RecUnit.raw_state : u.raw.state = u.state.code := rfl

@[simp] theorem RecUnit.raw_wear : u.raw.wear = u.wear := rfl

@[simp] theorem RecUnit.raw_owner : u.raw.owner = u.state.ownerWord := rfl

@[simp] theorem RecUnit.raw_cause : u.raw.cause = u.state.causeCode.toNat :=
  (info_bits u.retirePending u.state.causeCode).2.1

@[simp] theorem RecUnit.raw_retirePending : u.raw.retirePending = u.retirePending :=
  (info_bits u.retirePending u.state.causeCode).2.2

end

/-- R114: the codes of the four causes. -/
theorem causeCode_retired (c : Cause) : decodeCause (RecState.retired c).causeCode.toNat = c ∧
    1 ≤ (RecState.retired c).causeCode.toNat ∧ (RecState.retired c).causeCode.toNat ≤ 4 := by cases c <;> decide

/-- R114: what an image with `l` logicals can record of a unit: an owner below `l`, and no retire_pending when it is
RETIRED. -/
structure RecUnit.Fits (l : Nat) (u : RecUnit) : Prop where
  owner : ∀ n, u.state = .bound n → n < l
  retired : ∀ c, u.state = .retired c → u.retirePending = false

section
variable {u : RecUnit} {l : Nat} (h : u.Fits l) (hl : l ≤ 65536)
include h hl

/-- R114: a record is decoded as what was recorded. -/
theorem RecUnit.decode_raw : u.raw.decode = u := by
  rw [RawUnit.decode, raw_state, raw_owner, raw_wear, raw_cause, raw_retirePending]
  obtain ⟨state, wear, pending⟩ := u
  cases state with
  | free => rfl
  | bound n => simp [RecState.code, RecState.ownerWord, toNat_word16 (lt_of_lt_of_le (h.owner n rfl) hl)]
  | retired c => simp [RecState.code, causeCode_retired c]

/-- R141, test 6: a record that fits is a usable unit's. -/
theorem RecUnit.isUnitRecord_raw : u.raw.isUnitRecord l = true := by
  rw [RawUnit.isUnitRecord, raw_state, raw_owner, raw_cause, raw_retirePending]
  refine Bool.and_eq_true_iff.2 ⟨(info_bits u.retirePending u.state.causeCode).1, ?_⟩
  cases hst : u.state with
  | free => rfl
  | bound n =>
    have hn := h.owner n hst
    simp [RecState.code, RecState.ownerWord, RecState.causeCode, toNat_word16 (lt_of_lt_of_le hn hl), hn]
  | retired c => simp [RecState.code, RecState.ownerWord, causeCode_retired c, h.retired c hst]

end

/-! ### The header -/

/-- R114, R115: an image is its header, its unit records, its generations and its CRC. -/
theorem Snapshot.image_eq (k : Snapshot) : k.image = k.header ++ ((unitsOfCounts k.counts).flatMap k.unitBytes ++
    (k.generations.flatMap le16 ++ le32 (crc32 k.body))) := by simp [Snapshot.image, Snapshot.body]

/-- R114, R115: what stands at the offsets of the header. -/
theorem Snapshot.image_fields (k : Snapshot) : k.image.take 4 = imageMarker ∧ byteAt k.image 4 = 1 ∧
    byteAt k.image 5 = presentByte k.counts ∧ (∀ c : Fin 4, headerCount k.image c = BitVec.ofNat 16 k.counts[c]) ∧
    word16At k.image 14 = BitVec.ofNat 16 k.generations.length ∧ headerParams k.image = k.params ∧
    headerGeneration k.image = k.generation ∧ byteAt k.image 30 = k.target.identity ∧ byteAt k.image 31 = 1 := by
  rw [Snapshot.image_eq]
  refine ⟨?_, ?_, ?_, fun c => ?_, ?_, ?_, ?_, ?_, ?_⟩
  case refine_4 =>
    fin_cases c <;> simp [headerCount, Snapshot.header, counts_toList, byteAt, word16At, le16, le32, imageMarker]
  all_goals
    simp [headerParams, headerGeneration, Snapshot.header, counts_toList, byteAt, word16At, word32At, le16, le32,
      imageMarker]

@[simp] theorem Snapshot.header_length (k : Snapshot) : k.header.length = 32 := by
  simp [Snapshot.header, counts_toList, imageMarker]

/-! ### The image of a snapshot -/

theorem flatMap_unitBytes_length (k : Snapshot) :
    ((unitsOfCounts k.counts).flatMap k.unitBytes).length = 6 * k.counts.toList.sum := by
  simp [List.length_flatMap, unitsOfCounts_length, Nat.mul_comm]

theorem Snapshot.body_length (k : Snapshot) :
    k.body.length = 32 + 6 * k.counts.toList.sum + 2 * k.generations.length := by
  simp only [Snapshot.body, List.length_append, Snapshot.header_length, flatMap_unitBytes_length, flatMap_le16_length]

/-- R114: the length of an image. -/
theorem Snapshot.image_length (k : Snapshot) :
    k.image.length = 32 + 6 * k.counts.toList.sum + 2 * k.generations.length + 4 := by
  rw [Snapshot.image, List.length_append, Snapshot.body_length, le32_length]

/-- R115: the unit records follow the header. -/
theorem Snapshot.rawUnits_image (k : Snapshot) : rawUnits (unitsOfCounts k.counts) (k.image.drop 32) =
    (unitsOfCounts k.counts).map fun g => (g, k.rawAt g) := by
  rw [Snapshot.image_eq, ← k.header_length, List.drop_left, rawUnits_flatMap]

/-- R114: the CRC of the body closes the image. -/
theorem Snapshot.image_crc (k : Snapshot) :
    crc32 (k.image.take (k.image.length - 4)) = word32At k.image (k.image.length - 4) := by
  have hlength : k.image.length - 4 = k.body.length := by rw [Snapshot.image_length, Snapshot.body_length]; rfl
  rw [hlength, Snapshot.image, List.take_left, word32At_append]

/-! ### What a snapshot that can be recorded says -/

/-- The owner of a recorded unit. -/
def recOwner (p : Nat × RecUnit) : Option Nat :=
  match p.2.state with | .bound n => some n | .free => none | .retired _ => none

theorem recOwner_eq_some {p : Nat × RecUnit} {n : Nat} : recOwner p = some n ↔ p.2.state = .bound n := by
  unfold recOwner
  split <;> simp_all

/-- With distinct numbers, a record of a table is what the table answers. -/
theorem lookup_of_mem {β : Type} {us : List (Nat × β)} (hkeys : (us.map (·.1)).Nodup) {p : Nat × β} (hp : p ∈ us) :
    us.lookup p.1 = some p.2 := by
  obtain ⟨x, v⟩ := p
  induction us with
  | nil => cases hp
  | cons q us ih =>
    obtain ⟨y, w⟩ := q
    obtain ⟨hy, hkeys⟩ := List.nodup_cons.1 hkeys
    obtain he | hp := List.mem_cons.1 hp
    · cases he; simp
    · have hne : x ≠ y := fun e => hy (e ▸ List.mem_map_of_mem (f := (·.1)) hp)
      simpa [List.lookup_cons, beq_false_of_ne hne] using ih hkeys hp

section
variable {k : Snapshot} (hk : k.Recordable)
include hk

theorem Snapshot.Recordable.counts_le (c : Fin 4) : k.counts[c] ≤ 1024 := by
  have := hk.counts c
  omega

theorem Snapshot.Recordable.sum_le : k.counts.toList.sum ≤ 4096 := by
  have h0 : k.counts[0] ≤ 1024 := hk.counts_le 0
  have h1 : k.counts[1] ≤ 1024 := hk.counts_le 1
  have h2 : k.counts[2] ≤ 1024 := hk.counts_le 2
  have h3 : k.counts[3] ≤ 1024 := hk.counts_le 3
  simp only [counts_toList, List.sum_cons, List.sum_nil]
  omega

theorem Snapshot.Recordable.logicals_lt : k.generations.length < 65536 := by
  have := hk.logicals.2
  have := hk.sum_le
  omega

theorem Snapshot.Recordable.keys_nodup : (k.units.map (·.1)).Nodup := by
  rw [hk.keys]
  exact (unitsOfCounts_nodup hk.counts_le).filter _

theorem Snapshot.Recordable.fits {p : Nat × RecUnit} (hp : p ∈ k.units) : p.2.Fits k.generations.length :=
  ⟨hk.owners p hp, hk.retired p hp⟩

theorem Snapshot.Recordable.owners_nodup : (k.units.filterMap recOwner).Nodup := by
  have howner : recOwner = fun p => match p.2.state with | .bound n => some n | _ => none := by
    funext p
    unfold recOwner
    cases p.2.state <;> rfl
  rw [howner]
  exact hk.distinct

/-- R114: a logical is the owner of one unit. -/
theorem Snapshot.Recordable.owner_unique {p q : Nat × RecUnit} (hp : p ∈ k.units) (hq : q ∈ k.units) {n : Nat}
    (hpn : p.2.state = .bound n) (hqn : q.2.state = .bound n) : p = q := by
  have hpair := List.pairwise_filterMap.1 hk.owners_nodup
  by_contra hne
  have hsymm : Std.Symm fun a b : Nat × RecUnit =>
      ∀ x, recOwner a = some x → ∀ y, recOwner b = some y → x ≠ y :=
    ⟨fun a b hab x hx y hy e => hab y hy x hx e.symm⟩
  exact hpair.forall hp hq hne n (recOwner_eq_some.2 hpn) n (recOwner_eq_some.2 hqn) rfl

theorem Snapshot.Recordable.rawAt_usable {p : Nat × RecUnit} (hp : p ∈ k.units) :
    isSlotUnit k.counts p.1 = false ∧ k.rawAt p.1 = p.2.raw := by
  have husable : p.1 ∈ usableUnits k.counts := hk.keys ▸ List.mem_map_of_mem hp
  have hslot : isSlotUnit k.counts p.1 = false := by simpa using (List.mem_filter.1 husable).2
  rw [Snapshot.rawAt, hslot, lookup_of_mem hk.keys_nodup hp]
  exact ⟨rfl, rfl⟩

/-- R115: a present unit is a slot, or has a record in the snapshot. -/
theorem Snapshot.Recordable.slot_or_recorded {g : Nat} (hg : g ∈ unitsOfCounts k.counts) :
    isSlotUnit k.counts g = true ∨ ∃ u, (g, u) ∈ k.units := by
  cases hslot : isSlotUnit k.counts g with
  | true => exact .inl rfl
  | false =>
    have husable : g ∈ usableUnits k.counts := List.mem_filter.2 ⟨hg, by simp [hslot]⟩
    obtain ⟨⟨x, u⟩, hp, rfl⟩ := List.mem_map.1 (hk.keys ▸ husable)
    exact .inr ⟨u, hp⟩

/-- R114, R115: of the image's records, those of the usable units are the snapshot's. -/
theorem Snapshot.Recordable.usable_raws :
    ((unitsOfCounts k.counts).map fun g => (g, k.rawAt g)).filter (fun p => !isSlotUnit k.counts p.1) =
      k.units.map fun p => (p.1, p.2.raw) := by
  have hfilter : (unitsOfCounts k.counts).filter ((fun p : Nat × RawUnit => !isSlotUnit k.counts p.1) ∘
      fun g => (g, k.rawAt g)) = k.units.map (·.1) := hk.keys.symm
  rw [List.filter_map, hfilter, List.map_map]
  refine List.map_congr_left fun p hp => ?_
  rw [Function.comp, (hk.rawAt_usable hp).2]

/-! ### The image read back -/

theorem Snapshot.Recordable.headerL_image : headerL k.image = k.generations.length := by
  obtain ⟨-, -, -, -, hl, -⟩ := k.image_fields
  rw [headerL, hl, toNat_word16 hk.logicals_lt]

theorem Snapshot.Recordable.headerCount_image (c : Fin 4) : (headerCount k.image c).toNat = k.counts[c] := by
  obtain ⟨-, -, -, hcount, -⟩ := k.image_fields
  rw [hcount, toNat_word16 (lt_of_le_of_lt (hk.counts_le c) (by decide))]

theorem Snapshot.Recordable.headerUnits_image : headerUnits k.image = k.counts.toList.sum := by
  simp only [headerUnits, hk.headerCount_image, counts_toList]
  rfl

theorem Snapshot.Recordable.imageGenerations_image : imageGenerations k.image = k.generations := by
  have hdrop : 32 + 6 * k.counts.toList.sum = (k.header ++ (unitsOfCounts k.counts).flatMap k.unitBytes).length := by
    rw [List.length_append, Snapshot.header_length, flatMap_unitBytes_length]
  rw [imageGenerations, hk.headerL_image, hk.headerUnits_image, Snapshot.image_eq, ← List.append_assoc, hdrop,
    List.drop_left, rawWords_flatMap]

theorem Snapshot.Recordable.imageUnits_image : imageUnits k.counts k.image = k.units := by
  rw [imageUnits, Snapshot.rawUnits_image, hk.usable_raws, List.map_map]
  refine (List.map_congr_left fun p hp => ?_).trans k.units.map_id
  rw [Function.comp, RecUnit.decode_raw (hk.fits hp) hk.logicals_lt.le]
  rfl

/-! ### The tests of start-up -/

/-- R140: the image is intact. -/
theorem Snapshot.Recordable.intactImage_image : intactImage k.image = true := by
  obtain ⟨hmarker, hversion, -, -, -, -, -, -, hend⟩ := k.image_fields
  have hlong : 32 ≤ k.image.length := by rw [Snapshot.image_length]; omega
  have hlength := k.image_length
  rw [← hk.headerUnits_image, ← hk.headerL_image] at hlength
  simp only [intactImage, hmarker, hversion, hend, k.image_crc, beq_self_eq_true, Bool.and_true, Bool.and_eq_true,
    decide_eq_true_eq]
  exact ⟨hlong, hlength⟩

/-- The owner field of a record that says BOUND. -/
def RawUnit.boundOwner (p : Nat × RawUnit) : Option Word16 := if p.2.state = 1 then some p.2.owner else none

omit hk in
theorem RawUnit.boundOwner_raw (g : Nat) (u : RecUnit) :
    RawUnit.boundOwner (g, u.raw) = (recOwner (g, u)).map (BitVec.ofNat 16) := by
  obtain ⟨state, wear, pending⟩ := u
  cases state <;> rfl

/-- R114: the owner fields of the image's BOUND records are the owners that the snapshot records. -/
theorem Snapshot.Recordable.boundOwners_image :
    ((unitsOfCounts k.counts).map fun g => (g, k.rawAt g)).filterMap RawUnit.boundOwner =
      (k.units.filterMap recOwner).map (BitVec.ofNat 16) := by
  have hslots : ((unitsOfCounts k.counts).map fun g => (g, k.rawAt g)).filterMap RawUnit.boundOwner =
      (((unitsOfCounts k.counts).map fun g => (g, k.rawAt g)).filter
        fun p => !isSlotUnit k.counts p.1).filterMap RawUnit.boundOwner := by
    rw [List.filterMap_filter]
    refine List.filterMap_congr fun p hp => ?_
    obtain ⟨g, -, rfl⟩ := List.mem_map.1 hp
    cases hslot : isSlotUnit k.counts g with
    | true => simp [Snapshot.rawAt, hslot, RawUnit.boundOwner, slotRaw]
    | false => simp
  rw [hslots, hk.usable_raws, List.filterMap_map, List.map_filterMap]
  exact List.filterMap_congr fun p _ => RawUnit.boundOwner_raw p.1 p.2

/-- R141, test 6: the records agree with the geometry, and no two have one owner. -/
theorem Snapshot.Recordable.recordsAgree_image : recordsAgree k.counts k.generations.length
    ((unitsOfCounts k.counts).map fun g => (g, k.rawAt g)) = true := by
  refine Bool.and_eq_true_iff.2 ⟨List.all_eq_true.2 fun p hp => ?_, decide_eq_true ?_⟩
  · obtain ⟨g, hg, rfl⟩ := List.mem_map.1 hp
    obtain hslot | ⟨u, hu⟩ := hk.slot_or_recorded hg
    · simp only [hslot, if_true, Snapshot.rawAt]; rfl
    · obtain ⟨hslot, hraw⟩ := hk.rawAt_usable hu
      simp only [hslot, hraw]
      exact RecUnit.isUnitRecord_raw (hk.fits hu) hk.logicals_lt.le
  · have hnd : (((unitsOfCounts k.counts).map fun g => (g, k.rawAt g)).filterMap RawUnit.boundOwner).Nodup := by
      rw [hk.boundOwners_image]
      refine hk.owners_nodup.map_on fun m hm n hn he => ?_
      have hlt {x : Nat} (hx : x ∈ k.units.filterMap recOwner) : x < 65536 := by
        obtain ⟨p, hp, howner⟩ := List.mem_filterMap.1 hx
        exact (hk.owners p hp x (recOwner_eq_some.1 howner)).trans hk.logicals_lt
      rw [← toNat_word16 (hlt hm), ← toNat_word16 (hlt hn), he]
    exact hnd

/-- R141: the image is valid for its geometry, in the slot it names. -/
theorem Snapshot.Recordable.validImage_image : validImage k.counts k.target k.image = true := by
  obtain ⟨-, -, hpresent, -, -, hparams, hgen, hslot, -⟩ := k.image_fields
  have hgen0 : 1 ≤ k.generation.toNat := Nat.one_le_iff_ne_zero.2 fun h0 => hk.generation (BitVec.eq_of_toNat_eq h0)
  simp only [validImage, hk.intactImage_image, hslot, hpresent, hk.headerCount_image, hgen, hk.headerL_image, hparams,
    hk.params, k.rawUnits_image, hk.recordsAgree_image, beq_self_eq_true, List.all_eq_true, Bool.and_true,
    Bool.true_and, Bool.and_eq_true, decide_eq_true_eq]
  exact ⟨⟨fun _ _ => trivial, hgen0⟩, hk.logicals⟩

theorem Snapshot.Recordable.judgeSlot_image : judgeSlot k.counts k.target (.bytes k.image) = .valid :=
  if_pos hk.validImage_image

/-! ### The load -/

/-- R2: a logical's unit is the one that records it as its owner. -/
theorem Snapshot.Recordable.ownerUnit_of_bound {p : Nat × RecUnit} (hp : p ∈ k.units) {n : Nat}
    (hpn : p.2.state = .bound n) : ownerUnit k.units n = some p.1 := by
  have hsome : (k.units.find? fun q => decide (q.2.state = .bound n)).isSome = true :=
    List.find?_isSome.2 ⟨p, hp, by simpa using hpn⟩
  obtain ⟨q, hq⟩ := Option.isSome_iff_exists.1 hsome
  obtain rfl : p = q := hk.owner_unique hp (List.mem_of_find?_eq_some hq) hpn (by simpa using List.find?_some hq)
  rw [ownerUnit, hq]; rfl

omit hk in
theorem loadedMap_getElem? (us : List (Nat × RecUnit)) (gens : List Word16) (n : Nat) :
    (loadedMap us gens)[n]? = gens[n]?.map fun gen => ⟨ownerUnit us n, gen, none⟩ := by
  simp [loadedMap, List.getElem?_zipIdx, Function.comp_def]

omit hk in
theorem loadedMap_generations (us : List (Nat × RecUnit)) (gens : List Word16) :
    (loadedMap us gens).map (·.generation) = gens := by
  simp [loadedMap, Function.comp_def]

omit hk in
theorem Snapshot.mem_bound {g : Nat} : g ∈ k.bound ↔ ∃ n w p, (g, (⟨.bound n, w, p⟩ : RecUnit)) ∈ k.units := by
  rw [Snapshot.bound, List.mem_filterMap]
  constructor
  · rintro ⟨⟨x, state, w, p⟩, hp, hg⟩
    cases state with
    | bound n => cases hg; exact ⟨n, w, p, hp⟩
    | free | retired => cases hg
  · rintro ⟨n, w, p, hp⟩
    exact ⟨_, hp, rfl⟩

/-- R27, R143: what a load leaves, where the geometry is the snapshot's. -/
theorem Snapshot.Recordable.loadImage_image {s : State} (hs : s.counts = k.counts) :
    (s.loadImage k.target k.image).device = .ready ∧ (s.loadImage k.target k.image).params = k.params ∧
    (s.loadImage k.target k.image).ckpt = ⟨k.generation, some k.target, k.bound, [], none⟩ ∧
    (s.loadImage k.target k.image).units = k.units.map (fun p => (p.1, p.2.load)) ∧
    (s.loadImage k.target k.image).map = loadedMap k.units k.generations := by
  obtain ⟨-, -, -, -, -, hparams, hgen, -, -⟩ := k.image_fields
  simp only [State.loadImage, hs, hparams, hgen, hk.imageUnits_image, hk.imageGenerations_image]
  exact ⟨rfl, rfl, rfl, rfl, rfl⟩

/-- R27: a loaded unit is what its record says. -/
theorem Snapshot.Recordable.unit?_loadImage {s : State} (hs : s.counts = k.counts) {g : Nat} {u : RecUnit}
    (hu : (g, u) ∈ k.units) : (s.loadImage k.target k.image).unit? g = some u.load := by
  obtain ⟨-, -, -, hunits, -⟩ := hk.loadImage_image hs
  rw [State.unit?, unitIn, hunits, lookup_map_value k.units fun _ v => v.load, lookup_of_mem hk.keys_nodup hu]
  rfl

end

/-- Settles O43: the image is read back field by field, start-up judges it VALID, and the load gives the records back. -/
theorem writtenImageIsValidAndLoads : Obligations.WrittenImageIsValidAndLoads := by
  intro k hk
  obtain ⟨-, -, -, -, -, hparams, hgen, -, -⟩ := k.image_fields
  refine ⟨k.image_length, hk.judgeSlot_image, hk.imageUnits_image, hk.imageGenerations_image, hparams, hgen,
    fun s hs => ?_⟩
  obtain ⟨hdevice, hlive, hckpt, hunits, hmap⟩ := hk.loadImage_image hs
  refine ⟨hdevice, hlive, by rw [hckpt], by rw [hckpt], by rw [hckpt], fun g => by rw [hckpt]; exact Snapshot.mem_bound,
    fun g n w p hu => ⟨hk.unit?_loadImage hs hu, ?_⟩, fun g c w p hu => hk.unit?_loadImage hs hu,
    fun g w hu => hk.unit?_loadImage hs hu, fun g w hu => hk.unit?_loadImage hs hu, ?_⟩
  · have hn : n < k.generations.length := hk.owners _ hu n rfl
    refine ⟨k.generations[n], List.getElem?_eq_getElem hn, ?_⟩
    rw [hmap, loadedMap_getElem?, List.getElem?_eq_getElem hn, hk.ownerUnit_of_bound hu rfl]
    rfl
  · rw [hmap, loadedMap_generations]

end Sys2Proof.Machine

/-! SUPPORT. The arbiter of one channel and its choice (R119 to R121); with O47. -/
namespace Sys2Proof.Machine

/-! ### What an arbiter may issue -/

theorem State.imagesAllowed_iff (s : State) : s.imagesAllowed = true ↔
    s.device = .starting ∨ s.device = .formatting ∨ s.device = .ready ∨ s.device = .service := by
  unfold State.imagesAllowed
  cases s.device <;> simp

theorem State.erasesAllowed_iff (s : State) : s.erasesAllowed = true ↔
    s.device = .ready ∨ s.device = .service ∨ (s.device = .formatting ∧ s.ckpt.flight ≠ none) := by
  unfold State.erasesAllowed
  cases s.device <;> simp [Option.isSome_iff_ne_none]

section
variable {s : State} {c : Fin 4}

theorem State.imageWork_of_pending {w : ImageWork} (hw : s.channels[c].pendingImage = some w)
    (hallowed : s.imagesAllowed = true) : s.imageWork c = some (.image w) := by
  simp only [State.imageWork, hallowed, hw]; rfl

theorem State.imageWork_eq_none (h : s.channels[c].pendingImage = none ∨ ¬ s.imagesAllowed = true) :
    s.imageWork c = none := by
  unfold State.imageWork
  obtain h | h := h
  · rw [h]; split <;> rfl
  · exact if_neg h

theorem State.copyWork_of_assigned {m : Move} (hm : s.moves[c] = some m) (hph : m.phase = .assigned)
    (hd : s.device = .ready) : s.copyWork c = some (.copy m) := by
  simp only [State.copyWork, hm, hph, hd, and_self, if_true]

theorem State.copyWork_eq_none (h : ∀ m, s.moves[c] = some m → m.phase = .assigned → s.device ≠ .ready) :
    s.copyWork c = none := by
  unfold State.copyWork
  split
  · next m hm => exact if_neg fun ⟨hph, hd⟩ => h m hm hph hd
  · rfl

theorem State.eraseWork_of_queued {g : Nat} {rest : List Nat} (hq : s.eraseQueues[c] = g :: rest)
    (hallowed : s.erasesAllowed = true) : s.eraseWork c = some (.erase g) := by
  simp only [State.eraseWork, hallowed, hq]; rfl

theorem State.eraseWork_eq_none (h : s.eraseQueues[c] = [] ∨ ¬ s.erasesAllowed = true) : s.eraseWork c = none := by
  unfold State.eraseWork
  obtain h | h := h
  · rw [h]; split <;> rfl
  · exact if_neg h

/-! ### The choice -/

/-- R120: without an image operation the move goes before the erase. -/
theorem State.chooseWork_of_no_image (h : s.imageWork c = none) (ended : Bool) :
    s.chooseWork c ended = (s.copyWork c).or (s.eraseWork c) := by
  unfold State.chooseWork
  split <;> simp_all

/-- R120, R121: an image operation goes first after the end of an operation, and where there is no erase. -/
theorem State.chooseWork_image {w : Work} (hw : s.imageWork c = some w) {ended : Bool}
    (h : ended = true ∨ s.eraseWork c = none) : s.chooseWork c ended = some w := by
  unfold State.chooseWork
  rw [hw]
  obtain rfl | he := h
  · split <;> simp_all
  · rw [he]

/-- R121: of an image operation and an erase that one claim brings, the free value of the model decides (log 6). -/
theorem State.chooseWork_either {w e : Work} (hw : s.imageWork c = some w) (he : s.eraseWork c = some e) :
    s.chooseWork c false = some w ∨ s.chooseWork c false = some e := by
  unfold State.chooseWork
  rw [hw, he]
  dsimp only
  split
  · exact .inr rfl
  · exact .inl rfl

/-- R117, R119: a channel that is not ONLINE, or has an operation in flight, is issued nothing. -/
theorem State.arbitrate_of_busy (h : s.channels[c].state ≠ .online ∨ s.channels[c].inFlight ≠ none) (ended : Bool) :
    s.arbitrate c ended = s := by
  unfold State.arbitrate
  refine if_neg fun hidle => ?_
  simp only [Bool.and_eq_true, State.online_iff, Option.isNone_iff_eq_none] at hidle
  exact h.elim (· hidle.1) (· hidle.2)

theorem State.arbitrate_of_choice (hon : s.channels[c].state = .online) (hidle : s.channels[c].inFlight = none)
    {ended : Bool} {w : Work} (hw : s.chooseWork c ended = some w) : s.arbitrate c ended = s.issueWork c w := by
  simp only [State.arbitrate, (s.online_iff c).2 hon, hidle, hw]; rfl

theorem State.arbitrate_of_no_choice {ended : Bool} (h : s.chooseWork c ended = none) : s.arbitrate c ended = s := by
  unfold State.arbitrate
  rw [h]
  split <;> rfl

end

theorem State.issueWork_image (s : State) (c : Fin 4) (w : ImageWork) : s.issueWork c (.image w) = { s with
    channels := s.channels.set c
      { s.channels[c] with inFlight := some ⟨w.kind, w.owner, s.tick⟩, pendingImage := none } } := by
  simp [State.issueWork, State.issueOp, State.setPendingImage, State.setChannel, State.setChannels]

theorem State.issueWork_erase {s : State} {c : Fin 4} {g : Nat} {rest : List Nat} (hq : s.eraseQueues[c] = g :: rest) :
    s.issueWork c (.erase g) = { s with
      eraseQueues := s.eraseQueues.set c rest
      units := modifyIn s.units g fun u => { u with state := .erasing }
      channels := s.channels.set c
        { s.channels[c] with inFlight := some ⟨.erase (g % 1024), .unitManager, s.tick⟩ } } := by
  simp only [State.issueWork, hq]
  rfl

/-- Settles O47: the classes of R120 decide, but between an image operation and an erase of one claim. -/
theorem arbiterIssuesByPriority : Obligations.ArbiterIssuesByPriority := by
  intro s c ended ch images erases image erase noImage noCopy noErase
  refine ⟨fun h => State.arbitrate_of_busy h ended, fun hon hidle => ?_⟩
  have himages : s.imagesAllowed = true ↔ images := s.imagesAllowed_iff
  have herases : s.erasesAllowed = true ↔ erases := s.erasesAllowed_iff
  have himage (h : noImage) : s.imageWork c = none := State.imageWork_eq_none (by rwa [himages])
  have herase (h : noErase) : s.eraseWork c = none := State.eraseWork_eq_none (by rwa [herases])
  have hissue {e : Bool} {w : Work} (h : s.chooseWork c e = some w) := State.arbitrate_of_choice hon hidle h
  refine ⟨fun w hw hi h => ?_, fun w g rest hw hi hq he hend => ?_, fun m hno hm hph hd => ?_,
    fun g rest hno hcopy hq he => ?_, fun hno hcopy hnoErase => ?_⟩
  · have hwork := State.imageWork_of_pending hw (himages.2 hi)
    exact (hissue (State.chooseWork_image hwork (h.imp_right herase))).trans (s.issueWork_image c w)
  · subst hend
    have hwork := State.imageWork_of_pending hw (himages.2 hi)
    have hqueued := State.eraseWork_of_queued hq (herases.2 he)
    obtain h | h := State.chooseWork_either hwork hqueued
    · exact .inl ((hissue h).trans (s.issueWork_image c w))
    · exact .inr ((hissue h).trans (State.issueWork_erase hq))
  · refine hissue (e := ended) (w := .copy m) ?_
    rw [State.chooseWork_of_no_image (himage hno), State.copyWork_of_assigned hm hph hd]
    rfl
  · refine (hissue ?_).trans (State.issueWork_erase hq)
    rw [State.chooseWork_of_no_image (himage hno), State.copyWork_eq_none hcopy,
      State.eraseWork_of_queued hq (herases.2 he)]
    rfl
  · refine State.arbitrate_of_no_choice ?_
    rw [State.chooseWork_of_no_image (himage hno), State.copyWork_eq_none hcopy, herase hnoErase]
    rfl

end Sys2Proof.Machine

/-! SUPPORT. Commands that bring a reply, and what becomes of the reply (R118, R123 to R125); with O2, O48 and O49. -/
namespace Sys2Proof.Machine

/-! ### Every command completes -/

/-- Settles O2: replies and requests always complete, and of the other events only an ill-formed discard faults. -/
theorem everyCommandCompletes : Obligations.EveryCommandCompletes := by
  intro i s hwf
  obtain hreply | ⟨k, rfl⟩ | hevent := command_kinds i
  · obtain ⟨⟨c, r⟩, hr⟩ := Option.isSome_iff_exists.1 hreply
    exact ⟨_, exec_of_replyOf hr s⟩
  · exact ⟨_, exec_requestCommand k s⟩
  · cases hevent with
    | transactionDiscarded d => exact ⟨_, if_pos hwf⟩
    | hardwareReset | resetNRelease | tick | holdExpiry | operationDeadline | request | fetch | status | linkReset
    | formatUnitReset => exact ⟨_, rfl⟩

/-! ### Replies -/

/-- R123 to R125: while RESET_N is high a command that brings a reply is its arrival. -/
theorem exec_reply {i : Instr} {c : Fin 4} {r : Reply} {s : State} (h : replyOf i = some (c, r))
    (hrun : s.resetLow = false) : exec i s = .next (s.replyArrives c r) := by
  rw [exec_of_replyOf h, State.whenRunning, hrun]; rfl

/-- Settles O48: with nothing in flight every reply is stray. -/
theorem strayReplyIsCounted : Obligations.StrayReplyIsCounted := by
  intro s i c r hrun hidle hi
  have hreply : replyOf i = some (c, r) := by
    obtain rfl | h := hi
    · rfl
    · exact h
  rw [exec_reply hreply hrun]
  simp only [State.replyArrives, hidle]
  rfl

theorem OpKind.accepts_iff (k : OpKind) (r : Reply) : k.accepts r = true ↔ match k with
    | .identify => ∃ n, r = .ident n
    | .reset => r = .done
    | .erase _ => r = .done ∨ r = .failErase
    | .copy _ _ => r = .done ∨ r = .failProgram ∨ r = .failRead
    | .readImage _ => (∃ bs, r = .doneBytes bs) ∨ r = .failRead
    | .writeImage _ _ => r = .done ∨ r = .failProgram := by
  cases k with
  | identify | reset | erase | copy | readImage | writeImage => cases r <;> simp [OpKind.accepts]

/-- Settles O49: R118 by its table; and a command that brings a reply is that reply's arrival. -/
theorem repliesAreMatchedByKind : Obligations.RepliesAreMatchedByKind := by
  refine ⟨OpKind.accepts_iff, fun i j s hi hij => ?_⟩
  obtain ⟨⟨c, r⟩, hr⟩ := Option.ne_none_iff_exists'.1 hi
  rw [exec_of_replyOf hr, exec_of_replyOf (hij ▸ hr)]

end Sys2Proof.Machine

/-! SUPPORT. The steps and the ends of a restart (R131 to R133, R116); with O51. -/
namespace Sys2Proof.Machine

/-! ### Channel records -/

/-- A channel record put behind the end of the channel's operation is put in place of what stood before it. -/
theorem State.endOp_setChannel (s : State) (c : Fin 4) (ch : Channel) :
    (s.endOp c).setChannel c ch = s.setChannel c ch := by
  simp [State.endOp, State.setChannel, State.setChannels]

theorem State.endOp_channel_self (s : State) (c : Fin 4) :
    (s.endOp c).channels[c] = { s.channels[c] with inFlight := none } := by simp

/-- R119: the next operation of an owner takes the place of the one that has ended. -/
theorem State.endOp_issueOp (s : State) (c : Fin 4) (kind : OpKind) (owner : Owner) :
    (s.endOp c).issueOp c kind owner =
      s.setChannel c { s.channels[c] with inFlight := some ⟨kind, owner, s.tick⟩ } := by
  rw [State.issueOp, State.endOp_setChannel, State.endOp_channel_self]; rfl

/-! ### RESTART_CHANNEL -/

theorem channelOf_of_toNat {b : Byte} {c : Fin 4} (h : b.toNat = c.val) : channelOf b = some c := by
  have hlt : b.toNat < 4 := h ▸ c.isLt
  rw [channelOf, dif_pos hlt]
  exact congrArg some (Fin.ext h)

theorem restartEffect_of_faulted {s : State} {f : Frame} {c : Fin 4} (hc : f.selector.toNat = c.val)
    (hst : s.channels[c].state = .faulted) : restartEffect f s = { s with channels := s.channels.set c { s.channels[c] with
      state := .restarting, restart := some (.host f.tag), inFlight := some ⟨.reset, .restart, s.tick⟩ } } := by
  simp only [restartEffect, channelOf_of_toNat hc, hst, if_true]
  simp [State.startRestart, State.issueOp, State.setChannel, State.setChannels]

/-! ### The ends of a restart -/

/-- R132, R133: the channel record is put in place and the outcome goes to the host that asked for the restart, if any. -/
def State.endRestart (s : State) (c : Fin 4) (ch : Channel) (r : Byte → Record) : State :=
  match s.channels[c].restart with
  | some (.host tag) => (s.setChannel c ch).complete tag (r tag)
  | some .orphaned => s.setChannel c ch
  | none => s.setChannel c ch

section
variable (s : State) (c : Fin 4) (ch : Channel) (r : Byte → Record)

theorem State.endRestart_eq : s.endRestart c ch r =
    { s with channels := s.channels.set c ch, link := (s.endRestart c ch r).link } := by
  unfold State.endRestart
  split
  · unfold State.complete; split <;> rfl
  · rfl
  · rfl

theorem State.endRestart_host {tag : Byte} (ho : s.channels[c].restart = some (.host tag))
    (hopen : tag ∈ s.link.openTags) : (s.endRestart c ch r).link = s.link.complete tag (r tag) := by
  simp only [State.endRestart, ho]
  rw [State.complete_of_open (by simpa using hopen)]
  rfl

theorem State.endRestart_orphaned (ho : s.channels[c].restart = some .orphaned) :
    (s.endRestart c ch r).link = s.link := by
  simp only [State.endRestart, ho]; rfl

end

theorem State.restartFails_eq (s : State) (c : Fin 4) (cause : FaultCause) (why : RestartReason) (n : Word16) :
    s.restartFails c cause why n = (s.endRestart c
      { s.channels[c] with state := .faulted, fault := some cause, restart := none, inFlight := none }
      fun tag => restartRecord tag .restartFailed c s.channels[c].fault (some why) n).reexamine := rfl

theorem State.restartSucceeds_eq (s : State) (c : Fin 4) :
    s.restartSucceeds c = (((s.endRestart c
      { s.channels[c] with state := .online, fault := none, restart := none, inFlight := none }
      fun tag => restartRecord tag .ok c s.channels[c].fault none
        (BitVec.ofNat 16 s.channels[c].count)).serveAndReexamine.evaluate c).settle (some c)) := rfl

theorem State.endOp_endRestart (s : State) (c : Fin 4) (ch : Channel) (r : Byte → Record) :
    (s.endOp c).endRestart c ch r = s.endRestart c ch r := by
  simp only [State.endRestart, State.endOp_channel_self, State.endOp_setChannel]

/-- R132, R133: the IDENT of a restart, by the count it brings. -/
theorem State.endOp_restartIdentifies (s : State) (c : Fin 4) (n : Word16) : (s.endOp c).restartIdentifies c n =
    if n.toNat = s.channels[c].count then
      ((s.endRestart c { s.channels[c] with state := .online, fault := none, restart := none, inFlight := none }
        fun tag => restartRecord tag .ok c s.channels[c].fault none n).serveAndReexamine.evaluate c).settle (some c)
    else (s.endRestart c
      { s.channels[c] with state := .faulted, fault := some .protocol, restart := none, inFlight := none }
      fun tag => restartRecord tag .restartFailed c s.channels[c].fault (some .count) n).reexamine := by
  simp only [State.restartIdentifies, State.endOp_channel_self, State.restartSucceeds_eq, State.restartFails_eq,
    State.endOp_endRestart]
  split
  · next hn => rw [← hn, BitVec.ofNat_toNat, BitVec.setWidth_eq]
  · rfl

/-- R123: while RESET_N is high a reply that the operation in flight accepts is handed to its owner. -/
theorem exec_accepted {i : Instr} {c : Fin 4} {r : Reply} {s : State} {op : Op} (hreply : replyOf i = some (c, r))
    (hrun : s.resetLow = false) (hop : s.channels[c].inFlight = some op) (hacc : op.kind.accepts r = true) :
    exec i s = .next ((s.endOp c).handReply c op r) := by
  rw [exec_reply hreply hrun]
  simp only [State.replyArrives, hop, hacc, if_true]

/-- Settles O51: the steps and the two ends, each the reply's effect on the channel's record and one completion. -/
theorem restartRunsItsSteps : Obligations.RestartRunsItsSteps := by
  refine ⟨fun s f rest c hp hc hst => ?_, fun s c op hrun hop howner => ⟨fun hkind => ?_, ?_⟩⟩
  · exact (exec_of_passes hp).trans (congrArg _ (restartEffect_of_faulted (s := s.taken rest) hc hst))
  · obtain ⟨kind, owner, start⟩ := op
    cases hkind; cases howner
    exact (exec_accepted (r := .done) rfl hrun hop rfl).trans (congrArg _ (s.endOp_issueOp c .identify .restart))
  · intro hkind n ends
    obtain ⟨kind, owner, start⟩ := op
    cases hkind; cases howner
    have hexec : exec (.restartIdent c n) s = .next ((s.endOp c).restartIdentifies c n) :=
      exec_accepted (r := .ident n) rfl hrun hop rfl
    rw [State.endOp_restartIdentifies] at hexec
    have hends (ch : Channel) (r : Byte → Record) (status why : Byte)
        (hr : ∀ tag, r tag = ⟨tag, 10, status, 0,
          join16 (BitVec.ofNat 8 c.val) (faultByte s.channels[c].fault), join16 why 0, n, 0⟩) :
        ends ch status why n (s.endRestart c ch r) :=
      ⟨s.endRestart_eq c ch r, fun tag ho hopen => (s.endRestart_host c ch r ho hopen).trans (by rw [hr]; rfl),
        s.endRestart_orphaned c ch r⟩
    refine ⟨fun hn => ⟨_, ?_, hends _ _ 0 0 fun _ => rfl⟩, fun hn => ⟨_, ?_, hends _ _ 15 3 fun _ => rfl⟩⟩
    · exact hexec.trans (congrArg _ (if_pos hn))
    · exact hexec.trans (congrArg _ (if_neg hn))

end Sys2Proof.Machine

/-! SUPPORT. Start-up: the end of the probe, the two reads, and the judgement of the slots (R130, R138 to R144); with
O52. -/
namespace Sys2Proof.Machine

/-! ### The probe -/

theorem State.testProbeEnd_waits {s : State} {c : Fin 4} (h : s.channels[c].state = .undetermined) :
    s.testProbeEnd = s := by
  unfold State.testProbeEnd
  refine if_neg fun ⟨_, hall⟩ => ?_
  exact of_decide_eq_true (List.all_eq_true.1 hall c (List.mem_finRange c)) h

/-- R138: the probe has ended when it is over on all four channels. -/
theorem State.testProbeEnd_ends {s : State} (hst : s.startup.stage = .probing)
    (h : ∀ c : Fin 4, s.channels[c].state ≠ .undetermined) : s.testProbeEnd =
      if s.channels[(0 : Fin 4)].state = .absent then s.endStartup (.failed .noMedia) .unread .unread none 0
      else s.startReadA := by
  unfold State.testProbeEnd
  exact if_pos ⟨hst, List.all_eq_true.2 fun c _ => decide_eq_true (h c)⟩

theorem State.startReadA_online {s : State} (h : s.channels[(0 : Fin 4)].state = .online) : s.startReadA = { s with
    startup := ⟨.readingA, none⟩
    channels := s.channels.set 0 { s.channels[(0 : Fin 4)] with
      pendingImage := some ⟨.readImage 0, .stateControl⟩ } } := by
  obtain ⟨hchan, hindex⟩ : s.slotChannel .a = 0 ∧ s.slotIndex .a = 0 := Prod.mk.inj (s.slot_place .a)
  rw [State.startReadA, hchan, hindex, if_pos ((s.online_iff 0).2 h)]
  rfl

/-- R130: the IDENT of a probe, by the count it brings. -/
theorem State.endOp_probeIdentifies (s : State) (c : Fin 4) (n : Word16) : (s.endOp c).probeIdentifies c n =
    (s.setChannel c
      (if 64 ≤ n.toNat ∧ n.toNat ≤ 1024 then { s.channels[c] with state := .online, count := n.toNat, inFlight := none }
      else { s.channels[c] with state := .absent, count := 0, inFlight := none })).testProbeEnd := by
  simp only [State.probeIdentifies, State.probeAbsent, State.endOp_channel_self, State.endOp_setChannel,
    Config.minUnitCount, Config.maxUnitCount]
  split <;> rfl

/-! ### The reads -/

theorem State.endOp_channel_state (s : State) (c d : Fin 4) : (s.endOp c).channels[d].state = s.channels[d].state := by
  have h := Vector.ext_iff.1 (s.endOp_read c (·.state) fun _ => rfl) d.val d.isLt
  rwa [Vector.getElem_map, Vector.getElem_map] at h

/-- R97: slot B's place, as R139 reads it: channel 1 when it has units, else channel 0 behind slot A. -/
def State.slotBPlace (s : State) : Fin 4 × Nat :=
  if (s.channels[(1 : Fin 4)]).unitCount = 0 then (0, 1) else (1, 0)

theorem State.slotB_place (s : State) : s.slotChannel .b = s.slotBPlace.1 ∧ s.slotIndex .b = s.slotBPlace.2 :=
  Prod.mk.inj (s.slot_place .b)

/-- R139: the read of slot B on an ONLINE channel. -/
theorem State.startReadB_online {s : State} {b : Fin 4 × Nat} (hb : s.slotBPlace = b)
    (h : s.channels[b.1].state = .online) (a : SlotRead) : s.startReadB a = { s with
      startup := ⟨.readingB, some a⟩
      channels := s.channels.set b.1 { s.channels[b.1] with
        pendingImage := some ⟨.readImage b.2, .stateControl⟩ } } := by
  obtain ⟨hchan, hindex⟩ := s.slotB_place
  rw [hb] at hchan hindex
  rw [State.startReadB, hchan, hindex, if_pos ((s.online_iff _).2 h)]
  rfl

/-- R139: on a channel that is not ONLINE the read of slot B is handed back at once. -/
theorem State.startReadB_offline {s : State} {b : Fin 4 × Nat} (hb : s.slotBPlace = b)
    (h : s.channels[b.1].state ≠ .online) (a : SlotRead) : s.startReadB a = s.judge a .unread := by
  rw [State.startReadB, s.slotB_place.1, hb, if_neg (by rwa [State.online_iff])]

theorem State.slotBPlace_of_counts {s t : State} (h : t.counts = s.counts) : t.slotBPlace = s.slotBPlace := by
  refine Prod.ext ?_ ?_
  · rw [← t.slotB_place.1, ← s.slotB_place.1, State.slotChannel_of_counts h]
  · rw [← t.slotB_place.2, ← s.slotB_place.2, State.slotIndex_of_counts h]

theorem State.readEnds_readingA {s : State} (h : s.startup.stage = .readingA) (r : SlotRead) :
    s.readEnds r = s.startReadB r := by simp only [State.readEnds, h]

theorem State.readEnds_readingB {s : State} {a : SlotRead} (h : s.startup.stage = .readingB)
    (ha : s.startup.slotA = some a) (r : SlotRead) : s.readEnds r = s.judge a r := by
  simp only [State.readEnds, h, ha, Option.getD_some]

/-- R123, R139: the replies to a start-up read in flight. -/
theorem exec_readReplies {s : State} {c : Fin 4} {op : Op} {j : Nat} {i : Instr} {result : SlotRead}
    (hrun : s.resetLow = false) (hop : s.channels[c].inFlight = some op) (howner : op.owner = .stateControl)
    (hkind : op.kind = .readImage j)
    (hi : (∃ bs, i = .readImageDone c bs ∧ result = .bytes bs) ∨ (i = .readImageFail c ∧ result = .unread)) :
    exec i s = .next (((s.endOp c).readEnds result).settle (some c)) := by
  obtain ⟨kind, owner, start⟩ := op
  cases hkind; cases howner
  obtain ⟨bs, rfl, rfl⟩ | ⟨rfl, rfl⟩ := hi
  · rw [exec_accepted (r := .doneBytes bs) rfl hrun hop rfl]; rfl
  · rw [exec_accepted (r := .failRead) rfl hrun hop rfl]; rfl

/-! ### The judgement -/

theorem validImage_iff_judgeSlot (counts : Vector Nat 4) (k : Slot) (bs : List Byte) :
    validImage counts k bs = true ↔ judgeSlot counts k (.bytes bs) = .valid := by
  simp only [judgeSlot]
  split
  · next h => simp [h]
  · next h => split <;> simp [h]

/-- R144: what start-up's end leaves, where the state it ends in has the same channels as `s`. -/
theorem State.endStartup_of_channels {s t : State} (h : t.channels = s.channels) (d : DeviceState) (ra rb : SlotResult)
    (l : Option Slot) (g : Word32) : t.endStartup d ra rb l g =
      ({ t with device := d, startup := ⟨.ended, none⟩ } : State).post .started
        (startedNotice d s.presentBits ra rb l g) := by
  have hbits : t.presentBits = s.presentBits := by simp only [State.presentBits, State.present, h]
  rw [State.endStartup, hbits]; rfl

/-- R142, R143: the chosen image is loaded. -/
theorem State.judge_loads {s : State} {a b : SlotRead} {k : Slot} {bs : List Byte}
    (h : chooseImage s.counts a b = some (k, bs)) : s.judge a b =
      ({ s.loadImage k bs with startup := ⟨.ended, none⟩ } : State).post .started
        (startedNotice .ready s.presentBits (judgeSlot s.counts .a a) (judgeSlot s.counts .b b) (some k)
          (headerGeneration bs)) := by
  simp only [State.judge, h]
  exact State.endStartup_of_channels (by simp) _ _ _ _ _

/-- R142: with no image to load the device becomes FAILED(GEOMETRY) where a slot is intact, else UNFORMATTED. -/
theorem State.judge_fails {s : State} {a b : SlotRead} (h : chooseImage s.counts a b = none) {d : DeviceState}
    (hd : (if judgeSlot s.counts .a a = .intact ∨ judgeSlot s.counts .b b = .intact then
      .failed .geometry else .unformatted) = d) : s.judge a b =
      ({ s with device := d, startup := ⟨.ended, none⟩ } : State).post .started
        (startedNotice d s.presentBits (judgeSlot s.counts .a a) (judgeSlot s.counts .b b) none 0) := by
  simp only [State.judge, h]
  by_cases hin : judgeSlot s.counts .a a = .intact ∨ judgeSlot s.counts .b b = .intact
  · rw [if_pos hin] at hd ⊢
    rw [State.endStartup_of_channels (s := s) (t := s) rfl, hd]
  · rw [if_neg hin] at hd ⊢
    rw [State.endStartup_of_channels (s := s) (t := s) rfl, hd]

section
variable {counts : Vector Nat 4} {a b : SlotRead}

theorem chooseImage_a {x : List Byte} (ha : a = .bytes x) (hva : judgeSlot counts .a a = .valid)
    (hb : ∀ y, b = .bytes y → judgeSlot counts .b b = .valid → (headerGeneration y).toNat ≤ (headerGeneration x).toNat) :
    chooseImage counts a b = some (.a, x) := by
  subst ha
  have hx := (validImage_iff_judgeSlot counts .a x).2 hva
  cases b with
  | unread => simp only [chooseImage, hx, if_true]
  | bytes y =>
    have hnot : (validImage counts .b y && decide ((headerGeneration x).toNat < (headerGeneration y).toNat)) = false := by
      rw [Bool.eq_false_iff]
      intro hy
      rw [Bool.and_eq_true, validImage_iff_judgeSlot, decide_eq_true_eq] at hy
      exact absurd (hb y rfl hy.1) (Nat.not_le.2 hy.2)
    simp [chooseImage, hx, hnot]

theorem chooseImage_b {y : List Byte} (hb : b = .bytes y) (hvb : judgeSlot counts .b b = .valid)
    (ha : ∀ x, a = .bytes x → judgeSlot counts .a a = .valid → (headerGeneration x).toNat < (headerGeneration y).toNat) :
    chooseImage counts a b = some (.b, y) := by
  subst hb
  have hy := (validImage_iff_judgeSlot counts .b y).2 hvb
  cases a with
  | unread => simp only [chooseImage, hy, if_true]
  | bytes x =>
    by_cases hx : validImage counts .a x = true
    · have hlt := ha x rfl ((validImage_iff_judgeSlot counts .a x).1 hx)
      simp [chooseImage, hx, hy, hlt]
    · simp [chooseImage, hx, hy]

theorem chooseImage_none (ha : judgeSlot counts .a a ≠ .valid) (hb : judgeSlot counts .b b ≠ .valid) :
    chooseImage counts a b = none := by
  cases h : chooseImage counts a b with
  | none => rfl
  | some q =>
    exfalso
    revert h
    cases a <;> cases b <;> simp_all [chooseImage, ← validImage_iff_judgeSlot]

end

/-- Settles O52: the replies of the probe and of the reads, then the end of the probe and the judgement by themselves. -/
theorem startupRunsItsSteps : Obligations.StartupRunsItsSteps := by
  refine ⟨fun s c op hrun hop howner => ⟨fun hkind => ?_, ?_⟩, fun s hst => ⟨?_, fun hall => ?_⟩, ?_, ?_⟩
  · obtain ⟨kind, owner, start⟩ := op
    cases hkind; cases howner
    exact (exec_accepted (r := .done) rfl hrun hop rfl).trans
      (congrArg _ (s.endOp_issueOp c .identify .stateControl))
  · intro hkind n ch
    obtain ⟨kind, owner, start⟩ := op
    cases hkind; cases howner
    have hident : (s.endOp c).probeIdentifies c n = (s.setChannel c ch).testProbeEnd := s.endOp_probeIdentifies c n
    refine (exec_accepted (r := .ident n) rfl hrun hop rfl).trans (congrArg Host.Outcome.next ?_)
    exact congrArg (State.settle · (some c)) hident
  · rintro ⟨c, hc⟩
    exact State.testProbeEnd_waits hc
  · rw [State.testProbeEnd_ends hst hall]
    refine ⟨fun h => (if_pos h).trans ?_, fun h => (if_neg (by rw [h]; decide)).trans (State.startReadA_online h)⟩
    exact State.endStartup_of_channels rfl _ _ _ _ _
  · intro s c op j i result hrun hop howner hkind hi idle b
    have hexec : exec i s = .next ((idle.readEnds result).settle (some c)) :=
      exec_readReplies hrun hop howner hkind hi
    have hplace : idle.slotBPlace = b := State.slotBPlace_of_counts (s.endOp_counts c)
    have hstate : idle.channels[b.1].state = s.channels[b.1].state := s.endOp_channel_state c b.1
    refine ⟨fun hst hon => ?_, fun hst hoff => ?_, fun a hst ha => ?_⟩
    · rw [hexec, State.readEnds_readingA (s := idle) hst, State.startReadB_online hplace (hstate.trans hon)]
    · rw [hexec, State.readEnds_readingA (s := idle) hst, State.startReadB_offline hplace (hstate ▸ hoff)]
    · rw [hexec, State.readEnds_readingB (s := idle) hst ha]
  · intro s a b ra rb loads fails
    refine ⟨fun x ha hva hvb => ?_, fun y hb hva hvb => ?_, fun x y ha hb hva hvb => ⟨fun hle => ?_, fun hlt => ?_⟩,
      fun hva hvb hin => ?_, fun hva hvb hina hinb => ?_⟩
    · exact State.judge_loads (chooseImage_a ha hva fun _ _ h => absurd h hvb)
    · exact State.judge_loads (chooseImage_b hb hvb fun _ _ h => absurd h hva)
    · exact State.judge_loads (chooseImage_a ha hva fun y' hb' _ => by cases hb.symm.trans hb'; exact hle)
    · exact State.judge_loads (chooseImage_b hb hvb fun x' ha' _ => by cases ha.symm.trans ha'; exact hlt)
    · exact State.judge_fails (chooseImage_none hva hvb) (if_pos hin)
    · exact State.judge_fails (chooseImage_none hva hvb) (if_neg (not_or.2 ⟨hina, hinb⟩))

end Sys2Proof.Machine

/-! SUPPORT. What each owner does with an operation that is lost (R40, R87, R103, R139, R150): the discarded unit, the
move, the checkpoint, the FORMAT and the start-up read, and what they leave alone. -/
namespace Sys2Proof.Machine

/-! ### The link while work is handed back -/

/-- Records stay in their order, and some tags may have become free (R156, R159). -/
def Link.Grows (l l' : Link) : Prop := ∃ gone, l.Extends l' gone

theorem Link.Extends.grows {l l' : Link} {gone : List Byte} (h : l.Extends l' gone) : l.Grows l' := ⟨gone, h⟩

theorem Link.Grows.trans {l l' l'' : Link} (h : l.Grows l') (h' : l'.Grows l'') : l.Grows l'' :=
  let ⟨_, e⟩ := h
  let ⟨_, e'⟩ := h'
  ⟨_, e.trans e'⟩

theorem Link.Grows.queue {l l' : Link} (h : l.Grows l') : l.queue <+: l'.queue :=
  let ⟨_, e⟩ := h
  e.queue

/-- The record of a request has been placed and its tag is free (R156). -/
def Link.Placed (l : Link) (tag : Byte) (r : Record) : Prop := tag ∉ l.openTags ∧ r ∈ l.queue

theorem Link.Placed.grows {l l' : Link} {tag : Byte} {r : Record} (h : l.Placed tag r) (hg : l.Grows l') :
    l'.Placed tag r := by
  obtain ⟨gone, e⟩ := hg
  exact ⟨fun hin => h.1 (List.diff_subset _ _ (e.tags ▸ hin)), e.queue.subset h.2⟩

theorem Link.complete_placed {l : Link} (hnd : l.openTags.Nodup) (tag : Byte) (r : Record) :
    (l.complete tag r).Placed tag r := ⟨hnd.not_mem_erase, by simp [Link.complete]⟩

theorem Link.Extends.open {l l' : Link} {gone : List Byte} (h : l.Extends l' gone) {tag : Byte}
    (hopen : tag ∈ l.openTags) (hnot : tag ∉ gone) : tag ∈ l'.openTags :=
  h.tags ▸ List.mem_diff_of_mem hopen hnot

theorem Link.Extends.nodup {l l' : Link} {gone : List Byte} (h : l.Extends l' gone) (hnd : l.openTags.Nodup) :
    l'.openTags.Nodup := h.tags ▸ hnd.diff

/-! ### What lost work leaves alone -/

/-- Each unit's number with its wear and its holds count (R25). -/
def chargesOf (us : List (Nat × UnitRec)) : List (Nat × Word16 × Nat) := us.map fun p => (p.1, p.2.wear, p.2.holds)

@[simp] theorem chargesOf_modifyIn (us : List (Nat × UnitRec)) (g : Nat) (f : UnitRec → UnitRec)
    (hf : ∀ u, (f u).wear = u.wear ∧ (f u).holds = u.holds) : chargesOf (modifyIn us g f) = chargesOf us := by
  rw [modifyIn_eq_map, chargesOf, List.map_map]
  refine List.map_congr_left fun p _ => ?_
  dsimp only [Function.comp]
  split
  · rw [(hf p.2).1, (hf p.2).2]
  · rfl

theorem chargesOf_lookup (us : List (Nat × UnitRec)) (g : Nat) :
    (chargesOf us).lookup g = (unitIn us g).map fun u => (u.wear, u.holds) :=
  lookup_map_value us (fun _ u => (u.wear, u.holds)) g

@[simp] theorem dirtyTails_charges (gs : List Nat) (s : State) :
    chargesOf (gs.foldl State.dirtyTail s).units = chargesOf s.units := by
  induction gs generalizing s with
  | nil => rfl
  | cons g gs ih =>
    rw [List.foldl_cons, ih, State.dirtyTail_units]
    exact chargesOf_modifyIn _ _ _ fun _ => ⟨rfl, rfl⟩

/-- The binding of each logical (R1). -/
def bindingsOf (map : List LogicalRec) : List (Option Nat × Word16) := map.map fun r => (r.unit, r.generation)

theorem State.bindingOf_eq (s : State) (n : Nat) : s.bindingOf n = ((bindingsOf s.map)[n]?).getD (none, 0) := by
  rw [bindingsOf, List.getElem?_map, State.bindingOf, State.logical?]
  cases s.map[n]? <;> rfl

theorem bindingsOf_modify (map : List LogicalRec) (n : Nat) :
    bindingsOf (map.modify n fun r => { r with move := none }) = bindingsOf map := by
  refine List.ext_getElem? fun i => ?_
  rw [bindingsOf, bindingsOf, List.getElem?_map, List.getElem?_map, List.getElem?_modify]
  split <;> cases map[i]? <;> rfl

/-- What no owner changes when it is handed lost work outside of start-up: parameters and channels, each logical's binding,
and each unit's wear and holds. -/
structure State.Handed (s t : State) : Prop where
  startup : t.startup = s.startup
  params : t.params = s.params
  channels : t.channels = s.channels
  bindings : bindingsOf t.map = bindingsOf s.map
  charges : chargesOf t.units = chargesOf s.units

theorem State.Handed.refl (s : State) : s.Handed s := ⟨rfl, rfl, rfl, rfl, rfl⟩

section
variable {s t : State} (h : s.Handed t)
include h

theorem State.Handed.trans {t' : State} (h' : t.Handed t') : s.Handed t' :=
  ⟨h'.startup.trans h.startup, h'.params.trans h.params, h'.channels.trans h.channels, h'.bindings.trans h.bindings,
    h'.charges.trans h.charges⟩

theorem State.Handed.bindingOf (n : Nat) : t.bindingOf n = s.bindingOf n := by
  rw [State.bindingOf_eq, State.bindingOf_eq, h.bindings]

theorem State.Handed.map_length : t.map.length = s.map.length := by
  simpa [bindingsOf] using congrArg List.length h.bindings

theorem State.Handed.charge {g : Nat} {u : UnitRec} (hu : s.unit? g = some u) :
    ∃ v, t.unit? g = some v ∧ v.wear = u.wear ∧ v.holds = u.holds := by
  have hlookup := (chargesOf_lookup t.units g).symm.trans ((congrArg (·.lookup g) h.charges).trans
    (chargesOf_lookup s.units g))
  have hu' : unitIn s.units g = some u := hu
  rw [hu', Option.map_some, Option.map_eq_some_iff] at hlookup
  obtain ⟨v, hv, he⟩ := hlookup
  exact ⟨v, hv, (Prod.mk.inj he).1, (Prod.mk.inj he).2⟩

theorem State.Handed.keysLawful (hkeys : s.keysLawful = true) : t.keysLawful = true := by
  refine State.keysLawful_of_keys hkeys ?_ (by rw [h.channels])
  simpa [chargesOf, List.map_map, Function.comp_def] using congrArg (List.map (·.1)) h.charges

end

/-! ### A discarded unit -/

theorem State.discardToHead_of_some {s : State} {g : Nat} {u : UnitRec} (hu : s.unit? g = some u) :
    s.discardToHead g = if u.retirePending then s.retireUnit g .host else s.dirtyHead g := by
  simp only [State.discardToHead, hu]

/-- R40, R45, R87: the unit is RETIRED(HOST) or DIRTY, and DIRTY it stands at the head of its erase queue. -/
theorem State.discardToHead_unit {s : State} {g : Nat} {u : UnitRec} (hu : s.unit? g = some u) :
    (s.discardToHead g).unit? g = some (discarded u) ∧
    (u.retirePending = false → ((s.discardToHead g).eraseQueues[chanOf g]).head? = some g) := by
  obtain ⟨st, wear, holds, mark⟩ := u
  rw [State.discardToHead_of_some hu]
  cases mark with
  | true => exact ⟨by simp [State.unit?_retireUnit, hu, discarded, UnitRec.retire], fun h => by cases h⟩
  | false =>
    refine ⟨?_, fun _ => by simp [State.dirtyHead, State.joinHead]⟩
    simp [State.unit?_modifyIn (s.dirtyHead_units g), hu, discarded]

theorem State.discardToHead_units (s : State) (g : Nat) : (s.discardToHead g).units = s.units ∨
    ∃ f : UnitRec → UnitRec, (s.discardToHead g).units = modifyIn s.units g f ∧
      ∀ u, (f u).wear = u.wear ∧ (f u).holds = u.holds ∧ (f u).state ≠ .waiting := by
  unfold State.discardToHead
  split
  · exact .inl rfl
  · split
    · exact .inr ⟨_, s.retireUnit_units g .host, fun u => ⟨rfl, rfl, by simp [UnitRec.retire]⟩⟩
    · exact .inr ⟨_, s.dirtyHead_units g, fun u => ⟨rfl, rfl, by simp⟩⟩

theorem State.discardToHead_handed (s : State) (g : Nat) : s.Handed (s.discardToHead g) where
  startup := by simp
  params := by simp
  channels := by simp
  bindings := by simp
  charges := by
    obtain h | ⟨f, h, hf⟩ := s.discardToHead_units g
    · rw [h]
    · rw [h, chargesOf_modifyIn _ _ _ fun u => ⟨(hf u).1, (hf u).2.1⟩]

theorem State.discardToHead_extends (s : State) (g : Nat) : s.link.Extends (s.discardToHead g).link [] := by
  unfold State.discardToHead
  split
  · exact .refl _
  · split
    · exact s.retireUnit_extends g .host
    · rw [show (s.dirtyHead g).link = s.link by simp]; exact .refl _

theorem State.discardToHead_counter (s : State) (g : Nat) {j : Counter} (hj : j ≠ .noticesCoalesced)
    (hj' : j ≠ .retirements) : (s.discardToHead g).counter j = s.counter j := by
  unfold State.discardToHead
  split
  · rfl
  · split
    · rw [s.retireUnit_counter g .host hj, if_neg hj']
    · exact State.counter_of_counters (by simp) j

/-- R105: whether a unit would leave the commit-wait set is not changed by the discard of one that was not WAITING. -/
theorem State.discardToHead_lets {s : State} {g : Nat} {u : UnitRec} (hkeys : s.keysLawful = true)
    (hu : s.unit? g = some u) (hnot : u.state ≠ .waiting) (k : Ckpt) :
    ((s.discardToHead g).units.filter k.lets).length = (s.units.filter k.lets).length := by
  obtain h | ⟨f, h, hf⟩ := s.discardToHead_units g
  · rw [h]
  · rw [h, modifyIn_eq_map, ← List.countP_eq_length_filter, ← List.countP_eq_length_filter, List.countP_map]
    refine List.countP_congr fun p hp => ?_
    by_cases hg : p.1 = g
    · have hrec := ((mem_iff_unitIn (State.keys_nodup hkeys) p.1 p.2).1 hp).symm.trans (hg ▸ hu)
      have hp2 : p.2.state ≠ .waiting := Option.some.inj hrec ▸ hnot
      simp [Ckpt.lets, UnitState.isWaiting, hg, hp2, (hf p.2).2.2]
    · simp [hg]

/-! ### A lost move -/

theorem State.endCopy_handed (s : State) (c : Fin 4) (m : Move) (why : MoveReason) : s.Handed (s.endCopy c m why) where
  startup := by simp
  params := by simp
  channels := by simp
  bindings := by
    rw [State.endCopy_eq]
    split
    · simp
    · simpa [State.clearMoveRef, State.modifyLogical] using bindingsOf_modify s.map m.logical
  charges := by simp

theorem State.endCopy_moves (s : State) (c : Fin 4) (m : Move) (why : MoveReason) :
    (s.endCopy c m why).moves = s.moves.set c none := by
  rw [State.endCopy_eq, State.endMove_moves]
  split <;> simp

theorem State.endCopy_extends (s : State) (c : Fin 4) (m : Move) (why : MoveReason) :
    s.link.Extends (s.endCopy c m why).link m.origin.tag := by
  rw [State.endCopy_eq]
  have hlink : (if m.phase = .abandoning then s else s.clearMoveRef m.logical).link = s.link := by split <;> simp
  rw [← hlink]
  exact State.endMove_extends _ _ _ _ _ _

/-- R89: a host's move that ends without a commit completes its request. -/
theorem State.endCopy_placed {s : State} {m : Move} {tag : Byte} (ho : m.origin = .host tag)
    (hopen : tag ∈ s.link.openTags) (hnd : s.link.openTags.Nodup) (c : Fin 4) (why : MoveReason) :
    (s.endCopy c m why).link.Placed tag (moveRecord tag m.endStatus c m why (s.bindingOf m.logical) s.tick) := by
  have hopen' (t) (ht : m.origin = .host t) : t ∈ s.link.openTags := by cases ho.symm.trans ht; exact hopen
  have hlink : (s.endCopy c m why).link =
      s.link.moveOutcome c m m.endStatus why (s.bindingOf m.logical) s.tick := by
    rw [State.endCopy_eq, State.endMove_link (by split <;> simpa using hopen')]
    split <;> simp
  rw [hlink, Link.moveOutcome, ho]
  exact Link.complete_placed hnd tag _

section
variable {s : State} {c : Fin 4} {m : Move} (hm : s.moves[c] = some m)
include hm

theorem State.loseCopy_of_move : s.loseCopy c = (s.discardToHead m.target).endCopy c m .channel := by
  simp only [State.loseCopy, hm]

theorem State.loseAssigned_of_assigned (hph : m.phase = .assigned) :
    s.loseAssigned c = (s.setUnitState m.target .free).endCopy c m .channel := by
  simp only [State.loseAssigned, hm, hph, if_true]

theorem State.loseAssigned_of_not_assigned (hph : m.phase ≠ .assigned) : s.loseAssigned c = s := by
  simp only [State.loseAssigned, hm, hph, if_false]

end

theorem State.loseAssigned_of_none {s : State} {c : Fin 4} (hm : s.moves[c] = none) : s.loseAssigned c = s := by
  simp only [State.loseAssigned, hm]

/-- R87: only an ASSIGNED move is lost with nothing of its own in flight. -/
theorem State.loseAssigned_cases (s : State) (c : Fin 4) : s.loseAssigned c = s ∨
    ∃ m, s.moves[c] = some m ∧ m.phase = .assigned ∧
      s.loseAssigned c = (s.setUnitState m.target .free).endCopy c m .channel := by
  cases hm : s.moves[c] with
  | none => exact .inl (State.loseAssigned_of_none hm)
  | some m =>
    by_cases hph : m.phase = .assigned
    · exact .inr ⟨m, rfl, hph, State.loseAssigned_of_assigned hm hph⟩
    · exact .inl (State.loseAssigned_of_not_assigned hm hph)

theorem State.setUnitState_handed (s : State) (g : Nat) (st : UnitState) : s.Handed (s.setUnitState g st) where
  startup := by simp
  params := by simp
  channels := by simp
  bindings := by simp
  charges := by rw [State.setUnitState_units]; exact chargesOf_modifyIn _ _ _ fun _ => ⟨rfl, rfl⟩

theorem State.loseAssigned_handed (s : State) (c : Fin 4) : s.Handed (s.loseAssigned c) := by
  obtain h | ⟨m, -, -, h⟩ := s.loseAssigned_cases c
  · rw [h]; exact .refl s
  · rw [h]; exact (s.setUnitState_handed _ _).trans (State.endCopy_handed _ _ _ _)

theorem State.loseCopy_handed (s : State) (c : Fin 4) : s.Handed (s.loseCopy c) := by
  unfold State.loseCopy
  split
  · exact .refl s
  · exact (s.discardToHead_handed _).trans (State.endCopy_handed _ _ _ _)

theorem State.loseAssigned_grows (s : State) (c : Fin 4) : s.link.Grows (s.loseAssigned c).link := by
  obtain h | ⟨m, -, -, h⟩ := s.loseAssigned_cases c
  · rw [h]; exact (Link.Extends.refl _).grows
  · rw [h]
    simpa using ((s.setUnitState m.target .free).endCopy_extends c m .channel).grows

theorem State.loseCopy_grows (s : State) (c : Fin 4) : s.link.Grows (s.loseCopy c).link := by
  unfold State.loseCopy
  split
  · exact (Link.Extends.refl _).grows
  · exact (s.discardToHead_extends _).grows.trans (State.endCopy_extends _ _ _ _).grows

/-! ### A lost checkpoint and a lost FORMAT -/

/-- R103, R106: the end of a checkpoint whose operation is lost; its WRITE IMAGE may have been written (`lost`). -/
theorem State.checkpointFails_ends {s : State} {fl : Flight} (hfl : s.ckpt.flight = some fl) (why : CkptReason)
    (lost : Bool) : s.checkpointFails why lost = s.checkpointEnds
      { s.ckpt with flight := none, unconfirmed := if lost then fl.snapshot.bound else s.ckpt.unconfirmed }
      .checkpointsFailed fl .checkpointFailed why := by
  simp only [State.checkpointFails, hfl, State.checkpointEnds_eq]

theorem State.checkpointFails_of_none {s : State} (hfl : s.ckpt.flight = none) (why : CkptReason) (lost : Bool) :
    s.checkpointFails why lost = s := by simp only [State.checkpointFails, hfl]

theorem State.formatFails_of_host {s : State} {fr : FormatRec} {tag : Byte} (hfr : s.formatRec = some fr)
    (ho : fr.origin = .host tag) (why : FormatReason) : s.formatFails why =
      ((s.setDevice (.failed .slot)).setFormatRec none).complete tag (formatFailedRecord tag why fr.step) := by
  simp only [State.formatFails, hfr, ho]

theorem State.formatFails_of_orphaned {s : State} {fr : FormatRec} (hfr : s.formatRec = some fr)
    (ho : fr.origin = .orphaned) (why : FormatReason) :
    s.formatFails why = (s.setDevice (.failed .slot)).setFormatRec none := by
  simp only [State.formatFails, hfr, ho]

theorem State.formatFails_of_none {s : State} (hfr : s.formatRec = none) (why : FormatReason) : s.formatFails why = s := by
  simp only [State.formatFails, hfr]

/-- The tags of a checkpoint in flight and of a running FORMAT (R156). -/
def State.lostTags (s : State) : List Byte :=
  ((s.ckpt.flight.map fun f => f.origin.tag).getD []) ++ ((s.formatRec.map fun f => f.origin.tag).getD [])

theorem State.formatFails_extends (s : State) (why : FormatReason) :
    s.link.Extends (s.formatFails why).link ((s.formatRec.map fun f => f.origin.tag).getD []) := by
  cases hfr : s.formatRec with
  | none => rw [State.formatFails_of_none hfr]; exact .refl _
  | some fr =>
    cases ho : fr.origin with
    | host tag =>
      rw [State.formatFails_of_host hfr ho]
      simpa [ho, Origin.tag] using
        ((s.setDevice (.failed .slot)).setFormatRec none).complete_extends tag (formatFailedRecord tag why fr.step)
    | orphaned =>
      rw [State.formatFails_of_orphaned hfr ho]
      simpa [ho, Origin.tag] using Link.Extends.refl s.link

/-- R150: a host's FORMAT that fails completes its request. -/
theorem State.formatFails_placed {s : State} {fr : FormatRec} {tag : Byte} (hfr : s.formatRec = some fr)
    (ho : fr.origin = .host tag) (hopen : tag ∈ s.link.openTags) (hnd : s.link.openTags.Nodup) (why : FormatReason) :
    (s.formatFails why).link.Placed tag (formatFailedRecord tag why fr.step) := by
  rw [State.formatFails_of_host hfr ho, State.complete_of_open (by simpa using hopen)]
  exact Link.complete_placed hnd tag _

theorem State.reportCheckpoint_extends (s : State) (f : Flight) {st : Status} (hst : st ≠ .ok) (why : CkptReason)
    (n : Nat) : ∃ gone, (∀ tag ∈ gone, tag ∈ f.origin.tag ∨ tag ∈ (s.formatRec.map fun f => f.origin.tag).getD []) ∧
      s.link.Extends (s.reportCheckpoint f st why n).link gone := by
  unfold State.reportCheckpoint
  cases ho : f.origin with
  | host tag => exact ⟨_, fun _ h => .inl h, s.complete_extends tag _⟩
  | auto => exact ⟨[], by simp, by rw [State.post_link]; exact Link.post_extends _ _ _⟩
  | format => exact ⟨_, fun _ h => .inr h, by dsimp only; rw [if_neg hst]; exact s.formatFails_extends _⟩
  | orphaned => exact ⟨[], by simp, .refl _⟩

theorem State.checkpointEnds_extends (s : State) (k : Ckpt) (counter : Counter) (fl : Flight) {st : Status}
    (hst : st ≠ .ok) (why : CkptReason) :
    ∃ gone, (∀ tag ∈ gone, tag ∈ fl.origin.tag ∨ tag ∈ (s.formatRec.map fun f => f.origin.tag).getD []) ∧
      s.link.Extends (s.checkpointEnds k counter fl st why).link gone := by
  rw [State.checkpointEnds]
  simpa using ((s.setCkpt k).sortCommitWait.count counter).reportCheckpoint_extends fl hst why
    (s.units.filter k.lets).length

theorem State.checkpointEnds_unit? {s : State} (hkeys : s.keysLawful = true) (k : Ckpt) (counter : Counter)
    (fl : Flight) (st : Status) (why : CkptReason) (x : Nat) : (s.checkpointEnds k counter fl st why).unit? x =
      (s.unit? x).map fun u => if k.lets (x, u) then { u with state := .dirty } else u := by
  rw [State.unit?, State.unit?, unitIn, unitIn, State.checkpointEnds_units _ _ _ _ _ hkeys,
    ← lookup_map_value s.units fun g u => if k.lets (g, u) then { u with state := .dirty } else u]
  congr 1
  refine List.map_congr_left fun p _ => ?_
  split <;> rfl

/-- What a lost checkpoint or FORMAT changes nothing of: the unit table and the erase queues but for what leaves the
commit-wait set, and the moves. -/
inductive State.Returns (s : State) : State → Prop where
  | kept : s.Returns s
  | checkpoint (lost : Bool) : s.Returns (s.checkpointFails .channel lost)
  | format : s.Returns (s.formatFails .channel)

section
variable {s t : State} (h : s.Returns t)
include h

theorem State.Returns.handed : s.Handed t := by
  cases h with
  | kept => exact .refl s
  | format => exact ⟨by simp, by simp, by simp, by simp, by simp⟩
  | checkpoint lost =>
    refine ⟨by simp, by simp, by simp, by simp, ?_⟩
    unfold State.checkpointFails
    split <;> simp [State.sortCommitWait]

theorem State.Returns.moves : t.moves = s.moves := by
  cases h <;> simp

theorem State.Returns.extends : ∃ gone, gone ⊆ s.lostTags ∧ s.link.Extends t.link gone := by
  cases h with
  | kept => exact ⟨[], by simp, .refl _⟩
  | format => exact ⟨_, List.subset_append_right _ _, s.formatFails_extends _⟩
  | checkpoint lost =>
    cases hfl : s.ckpt.flight with
    | none => rw [State.checkpointFails_of_none hfl]; exact ⟨[], by simp, .refl _⟩
    | some fl =>
      rw [State.checkpointFails_ends hfl]
      obtain ⟨gone, hgone, hext⟩ := s.checkpointEnds_extends { s.ckpt with
        flight := none, unconfirmed := if lost then fl.snapshot.bound else s.ckpt.unconfirmed }
        .checkpointsFailed fl (st := .checkpointFailed) (by decide) .channel
      exact ⟨gone, fun tag htag => by simpa [State.lostTags, hfl] using hgone tag htag, hext⟩

/-- R150: the device state and the FORMAT record change together, at the failure of a FORMAT. -/
theorem State.Returns.control : (t.device = s.device ∧ t.formatRec = s.formatRec) ∨
    (s.formatRec.isSome = true ∧ t.device = .failed .slot ∧ t.formatRec = none) := by
  have hformat (r : State) (why : FormatReason) :
      ((r.formatFails why).device = r.device ∧ (r.formatFails why).formatRec = r.formatRec) ∨
      (r.formatRec.isSome = true ∧ (r.formatFails why).device = .failed .slot ∧ (r.formatFails why).formatRec = none) := by
    cases hfr : r.formatRec with
    | none => exact .inl (by rw [State.formatFails_of_none hfr]; exact ⟨rfl, hfr⟩)
    | some fr => exact .inr (by simp [hfr])
  cases h with
  | kept => exact .inl ⟨rfl, rfl⟩
  | format => exact hformat s .channel
  | checkpoint lost =>
    cases hfl : s.ckpt.flight with
    | none => rw [State.checkpointFails_of_none hfl]; exact .inl ⟨rfl, rfl⟩
    | some fl =>
      rw [State.checkpointFails_ends hfl, State.checkpointEnds, State.reportCheckpoint]
      cases fl.origin with
      | host | auto | orphaned => exact .inl (by simp)
      | format => simpa using hformat _ CkptReason.channel.toFormat

theorem State.Returns.flight : t.ckpt.flight = s.ckpt.flight ∨ t.ckpt.flight = none := by
  cases h with
  | kept => exact .inl rfl
  | format => exact .inl (by simp)
  | checkpoint lost =>
    cases hfl : s.ckpt.flight with
    | none => rw [State.checkpointFails_of_none hfl]; exact .inl hfl
    | some fl => rw [State.checkpointFails_ends hfl]; exact .inr (by simp)

theorem State.Returns.lostTags : t.lostTags ⊆ s.lostTags := by
  have hrec : t.formatRec = s.formatRec ∨ t.formatRec = none := by
    obtain ⟨-, hr⟩ | ⟨-, -, hr⟩ := h.control
    · exact .inl hr
    · exact .inr hr
  unfold State.lostTags
  obtain hf | hf := h.flight <;> obtain hr | hr := hrec <;> simp [hf, hr]

theorem State.Returns.counter {j : Counter} (hj : j ≠ .noticesCoalesced) (hj' : j ≠ .checkpointsFailed) :
    t.counter j = s.counter j := by
  cases h with
  | kept => rfl
  | format => exact State.counter_of_counters (by simp) j
  | checkpoint lost =>
    cases hfl : s.ckpt.flight with
    | none => rw [State.checkpointFails_of_none hfl]
    | some fl =>
      rw [State.checkpointFails_ends hfl, State.checkpointEnds_counted _ _ _ _ _ _ j hj]
      simp [hj']

/-- R105: a unit that is not WAITING stays as it is. -/
theorem State.Returns.unit (hkeys : s.keysLawful = true) {g : Nat} {u : UnitRec} (hu : s.unit? g = some u)
    (hnot : u.state ≠ .waiting) : t.unit? g = some u := by
  cases h with
  | kept => exact hu
  | format => rw [State.unit?_of_units (s := s) (by simp)]; exact hu
  | checkpoint lost =>
    cases hfl : s.ckpt.flight with
    | none => rw [State.checkpointFails_of_none hfl]; exact hu
    | some fl =>
      rw [State.checkpointFails_ends hfl, State.checkpointEnds_unit? hkeys, hu]
      simp [Ckpt.lets, UnitState.isWaiting, hnot]

theorem State.Returns.head {c : Fin 4} {g : Nat} (hhead : (s.eraseQueues[c]).head? = some g) :
    (t.eraseQueues[c]).head? = some g := by
  cases h with
  | kept => exact hhead
  | format => simpa using hhead
  | checkpoint lost =>
    cases hfl : s.ckpt.flight with
    | none => rw [State.checkpointFails_of_none hfl]; exact hhead
    | some fl =>
      rw [State.checkpointFails_ends hfl, State.checkpointEnds_eraseQueues, List.head?_append, hhead]
      rfl

end

end Sys2Proof.Machine

/-! SUPPORT. The loss of an operation in flight: the owner that takes it back, what a fault hands back in order, and the
law of what is in flight (R119, R122, R124, R126, R127); with O50. -/
namespace Sys2Proof.Machine

/-! ### A lost start-up read -/

theorem State.judge_extends (s : State) (a b : SlotRead) : s.link.Extends (s.judge a b).link [] := by
  have hend (t : State) (d : DeviceState) (ra rb : SlotResult) (l : Option Slot) (g : Word32) :
      t.link.Extends (t.endStartup d ra rb l g).link [] := by
    rw [State.endStartup, State.post_link]; exact Link.post_extends _ _ _
  unfold State.judge
  dsimp only
  split
  · simpa using hend (s.loadImage _ _) _ _ _ _ _
  · split
    · exact hend s _ _ _ _ _
    · exact hend s _ _ _ _ _

theorem State.readEnds_extends (s : State) (r : SlotRead) : s.link.Extends (s.readEnds r).link [] := by
  unfold State.readEnds State.startReadB
  split
  · split
    · rw [show ∀ w, (((s.setStartup w).setPendingImage _ _).link = s.link) from fun w => by simp]; exact .refl _
    · exact s.judge_extends r .unread
  · exact s.judge_extends _ r
  · exact .refl _
  · exact .refl _

/-- R122: a start-up read is placed on an ONLINE channel only. -/
theorem State.readEnds_channel {s : State} {c : Fin 4} (hoff : s.channels[c].state ≠ .online) (r : SlotRead) :
    (s.readEnds r).channels[c] = s.channels[c] := by
  unfold State.readEnds State.startReadB
  split
  · split
    · next hon =>
      have hne : (s.slotChannel .b).val ≠ c.val := fun e => hoff (by
        rw [← (Fin.ext e : s.slotChannel .b = c)]; exact (s.online_iff _).1 hon)
      simp [State.setPendingImage, State.setChannel, hne]
    · simp
  · simp
  · rfl
  · rfl

@[simp] theorem State.endStartup_startup (s : State) (d : DeviceState) (ra rb : SlotResult) (l : Option Slot) (g : Word32) :
    (s.endStartup d ra rb l g).startup = ⟨.ended, none⟩ := by simp [State.endStartup]

theorem State.judge_ends (s : State) (a b : SlotRead) :
    (s.judge a b).startup = ⟨.ended, none⟩ ∧ (s.judge a b).device ≠ .starting := by
  unfold State.judge
  dsimp only
  split
  · simp
  · split <;> simp

/-! ### The owner of a lost operation -/

section
variable (s : State) (c : Fin 4) {op : Op}

theorem State.loseInFlight_erase {j : Nat} (howner : op.owner = .unitManager) (hkind : op.kind = .erase j) :
    s.loseInFlight c op = s.discardToHead (globalOf c j) := by simp only [State.loseInFlight, howner, hkind]

theorem State.loseInFlight_copy (howner : op.owner = .relocation) : s.loseInFlight c op = s.loseCopy c := by
  simp only [State.loseInFlight, howner]

theorem State.loseInFlight_read {j : Nat} (howner : op.owner = .stateControl) (hkind : op.kind = .readImage j) :
    s.loseInFlight c op = s.readEnds .unread := by simp only [State.loseInFlight, howner, hkind]

theorem State.loseInFlight_format {j : Nat} (howner : op.owner = .stateControl) (hkind : op.kind = .erase j) :
    s.loseInFlight c op = s.formatFails .channel := by simp only [State.loseInFlight, howner, hkind]

/-- R103: the operation writes an image, which may have been written where the operation is lost. -/
def OpKind.writesImage : OpKind → Bool
  | .writeImage _ _ => true
  | .identify => false | .reset => false | .erase _ => false | .copy _ _ => false | .readImage _ => false

theorem State.loseInFlight_checkpoint (howner : op.owner = .checkpoint) :
    s.loseInFlight c op = s.checkpointFails .channel op.kind.writesImage := by
  obtain ⟨kind, owner, start⟩ := op
  cases howner
  cases kind <;> rfl

end

/-- Outside of start-up a lost operation is a unit's erase, a COPY, or one of the checkpoint unit's and the FORMAT's. -/
theorem State.loseInFlight_cases {s : State} (hst : s.startup.stage = .ended) (c : Fin 4) (op : Op) :
    (op.owner = .unitManager ∧ ∃ g, s.loseInFlight c op = s.discardToHead g) ∨
    (op.owner = .relocation ∧ s.loseInFlight c op = s.loseCopy c) ∨ s.Returns (s.loseInFlight c op) := by
  obtain ⟨kind, owner, start⟩ := op
  cases owner with
  | unitManager =>
    cases kind with
    | erase j => exact .inl ⟨rfl, _, rfl⟩
    | identify | reset | copy | readImage | writeImage => exact .inr (.inr .kept)
  | relocation => exact .inr (.inl ⟨rfl, rfl⟩)
  | checkpoint =>
    rw [State.loseInFlight_checkpoint s c rfl]
    exact .inr (.inr (.checkpoint _))
  | restart => exact .inr (.inr .kept)
  | stateControl =>
    cases kind with
    | readImage j =>
      rw [State.loseInFlight_read s c rfl rfl, State.readEnds_of_ended hst]
      exact .inr (.inr .kept)
    | identify | reset | erase | copy | writeImage => exact .inr (.inr .format)

theorem State.losePending_returns {s : State} (hst : s.startup.stage = .ended) (p : Option ImageWork) :
    s.Returns (s.losePending p) := by
  unfold State.losePending
  split
  · exact .kept
  · split
    · exact .checkpoint false
    · rw [State.readEnds_of_ended hst]; exact .kept
    · exact .format
    · exact .kept
    · exact .kept
    · exact .kept

/-! ### What a fault hands back -/

/-- R127, steps 3 to 5: the lost operation, the pending image operation and the ASSIGNED move go back to their owners. -/
def State.handBack (s : State) (c : Fin 4) (op : Op) (p : Option ImageWork) : State :=
  ((s.loseInFlight c op).losePending p).loseAssigned c

section
variable (s : State) (c : Fin 4) (op : Op) (p : Option ImageWork)

@[simp] theorem State.handBack_frame :
    (s.handBack c op p).pending = s.pending ∧ (s.handBack c op p).resetLow = s.resetLow ∧
    (s.handBack c op p).miso = s.miso ∧ (s.handBack c op p).tick = s.tick ∧ (s.handBack c op p).waiters = s.waiters ∧
    (s.handBack c op p).holds = s.holds := by simp [State.handBack]

theorem State.loseInFlight_grows : s.link.Grows (s.loseInFlight c op).link := by
  unfold State.loseInFlight
  have hckpt (lost : Bool) : s.link.Grows (s.checkpointFails .channel lost).link :=
    let ⟨_, _, e⟩ := State.Returns.extends (.checkpoint lost)
    e.grows
  split
  · exact (s.discardToHead_extends _).grows
  · exact s.loseCopy_grows c
  · exact hckpt true
  · exact hckpt false
  · exact (s.readEnds_extends _).grows
  · exact (s.formatFails_extends _).grows
  · exact (Link.Extends.refl _).grows
  · exact (Link.Extends.refl _).grows

theorem State.losePending_grows : s.link.Grows (s.losePending p).link := by
  unfold State.losePending
  split
  · exact (Link.Extends.refl _).grows
  · split
    · obtain ⟨_, _, e⟩ := State.Returns.extends (s := s) (.checkpoint false)
      exact e.grows
    · exact (s.readEnds_extends _).grows
    · exact (s.formatFails_extends _).grows
    · exact (Link.Extends.refl _).grows
    · exact (Link.Extends.refl _).grows
    · exact (Link.Extends.refl _).grows

/-- R159: from the loss of the operation on, records are only placed. -/
theorem State.handBack_grows_inFlight : (s.loseInFlight c op).link.Grows (s.handBack c op p).link :=
  (State.losePending_grows _ _).trans (State.loseAssigned_grows _ _)

theorem State.handBack_grows : s.link.Grows (s.handBack c op p).link :=
  (s.loseInFlight_grows c op).trans (s.handBack_grows_inFlight c op p)

end

section
variable {s : State} {c : Fin 4} (op : Op) (p : Option ImageWork)

theorem State.loseInFlight_channel (hoff : s.channels[c].state ≠ .online) :
    (s.loseInFlight c op).channels[c] = s.channels[c] := by
  unfold State.loseInFlight
  split
  · simp
  · simp
  · simp
  · simp
  · exact State.readEnds_channel hoff _
  · simp
  · rfl
  · rfl

theorem State.losePending_channel (hoff : s.channels[c].state ≠ .online) :
    (s.losePending p).channels[c] = s.channels[c] := by
  unfold State.losePending
  split
  · rfl
  · split
    · simp
    · exact State.readEnds_channel hoff _
    · simp
    · rfl
    · rfl
    · rfl

/-- R127: the record of the channel that has faulted is not touched by what is handed back. -/
theorem State.handBack_channel (hoff : s.channels[c].state ≠ .online) :
    (s.handBack c op p).channels[c] = s.channels[c] := by
  have hin := State.loseInFlight_channel op hoff
  have hpending := State.losePending_channel (s := s.loseInFlight c op) p (by rwa [hin])
  rw [State.handBack, (State.loseAssigned_handed _ c).channels, hpending, hin]

end

section
variable {s : State} (hst : s.startup.stage = .ended) (c : Fin 4) (op : Op) (p : Option ImageWork)
include hst

theorem State.loseInFlight_handed : s.Handed (s.loseInFlight c op) := by
  obtain ⟨-, g, h⟩ | ⟨-, h⟩ | h := State.loseInFlight_cases hst c op
  · rw [h]; exact s.discardToHead_handed g
  · rw [h]; exact s.loseCopy_handed c
  · exact h.handed

theorem State.loseInFlight_ended : (s.loseInFlight c op).startup.stage = .ended := by
  rw [(State.loseInFlight_handed hst c op).startup]; exact hst

theorem State.handBack_handed : s.Handed (s.handBack c op p) :=
  ((State.loseInFlight_handed hst c op).trans
    (State.losePending_returns (State.loseInFlight_ended hst c op) p).handed).trans (State.loseAssigned_handed _ c)

end

/-! ### Moves while other work is handed back -/

/-- The relocation list is as it was, no move has failed, and the tags that became free are a checkpoint's and a FORMAT's. -/
structure State.SparesMoves (s t : State) : Prop where
  moves : t.moves = s.moves
  failed : t.counter .movesFailed = s.counter .movesFailed
  link : ∃ gone, gone ⊆ s.lostTags ∧ s.link.Extends t.link gone
  tags : t.lostTags ⊆ s.lostTags

theorem State.SparesMoves.trans {s t t' : State} (h : s.SparesMoves t) (h' : t.SparesMoves t') : s.SparesMoves t' where
  moves := h'.moves.trans h.moves
  failed := h'.failed.trans h.failed
  link :=
    let ⟨a, ha, e⟩ := h.link
    let ⟨b, hb, e'⟩ := h'.link
    ⟨a ++ b, List.append_subset.2 ⟨ha, List.Subset.trans hb h.tags⟩, e.trans e'⟩
  tags := List.Subset.trans h'.tags h.tags

theorem State.Returns.sparesMoves {s t : State} (h : s.Returns t) : s.SparesMoves t :=
  ⟨h.moves, h.counter (by decide) (by decide), h.extends, h.lostTags⟩

theorem State.discardToHead_sparesMoves (s : State) (g : Nat) : s.SparesMoves (s.discardToHead g) where
  moves := by simp
  failed := s.discardToHead_counter g (by decide) (by decide)
  link := ⟨[], by simp, s.discardToHead_extends g⟩
  tags := by simp [State.lostTags]

section
variable {s : State} (hst : s.startup.stage = .ended) {c : Fin 4} {op : Op} (p : Option ImageWork)
include hst

/-- R127: what goes back before the ASSIGNED move, where the lost operation is no COPY, spares that move. -/
theorem State.sparesMoves_before_assigned (howner : op.owner ≠ .relocation) :
    s.SparesMoves ((s.loseInFlight c op).losePending p) := by
  have hpending := (State.losePending_returns (State.loseInFlight_ended hst c op) p).sparesMoves
  obtain ⟨-, g, h⟩ | ⟨h, -⟩ | h := State.loseInFlight_cases hst c op
  · rw [h] at hpending ⊢
    exact (s.discardToHead_sparesMoves g).trans hpending
  · exact absurd h howner
  · exact h.sparesMoves.trans hpending

theorem State.handed_before_assigned : s.Handed ((s.loseInFlight c op).losePending p) :=
  (State.loseInFlight_handed hst c op).trans (State.losePending_returns (State.loseInFlight_ended hst c op) p).handed

end

/-! ### The ASSIGNED move and the move of a lost COPY -/

section
variable {s : State} (hst : s.startup.stage = .ended) {c : Fin 4} {op : Op} (p : Option ImageWork) {m : Move}
  (hm : s.moves[c] = some m)
include hst hm

/-- R87: the ASSIGNED move fails, and its target is FREE again. -/
theorem State.handBack_assigned (howner : op.owner ≠ .relocation) (hph : m.phase = .assigned) {u : UnitRec}
    (hu : s.unit? m.target = some u) :
    (s.handBack c op p).moves = s.moves.set c none ∧ (s.handBack c op p).stateOf m.target = some .free ∧
    (s.handBack c op p).counter .movesFailed = s.counter .movesFailed + 1 := by
  have hspares := State.sparesMoves_before_assigned hst (c := c) p howner
  obtain ⟨v, hv, -⟩ := (State.handed_before_assigned hst (c := c) (op := op) p).charge hu
  rw [State.handBack, State.loseAssigned_of_assigned (hspares.moves ▸ hm) hph]
  generalize (s.loseInFlight c op).losePending p = r at *
  refine ⟨?_, ?_, ?_⟩
  · rw [State.endCopy_moves, ← hspares.moves]; simp
  · rw [State.stateOf, State.unit?_of_units (s := r.setUnitState m.target .free) (by simp), State.unit?_setUnitState,
      if_pos rfl, hv]
    rfl
  · rw [State.endCopy_counted _ _ _ _ _ (by decide), Move.endStatus_counter, hph, ← hspares.failed]
    simp [State.counter]

/-- R89: the lost move of a host completes its request with the reason CHANNEL. -/
theorem State.handBack_move_placed (hlost : op.owner = .relocation ∨ m.phase = .assigned) {tag : Byte}
    (ho : m.origin = .host tag) (hopen : tag ∈ s.link.openTags) (hnd : s.link.openTags.Nodup)
    (hnot : tag ∉ s.lostTags) : (s.handBack c op p).link.Placed tag
      (moveRecord tag m.endStatus c m .channel (s.bindingOf m.logical) s.tick) := by
  by_cases howner : op.owner = .relocation
  · have hext := s.discardToHead_extends m.target
    have hplaced := State.endCopy_placed ho (hext.open hopen (by simp)) (hext.nodup hnd) c .channel
    rw [← State.loseCopy_of_move hm, ← s.loseInFlight_copy c howner, (s.discardToHead_handed _).bindingOf] at hplaced
    refine Link.Placed.grows ?_ (s.handBack_grows_inFlight c op p)
    simpa using hplaced
  · have hph := hlost.resolve_left howner
    have hspares := State.sparesMoves_before_assigned hst (c := c) p howner
    obtain ⟨gone, hgone, hext⟩ := hspares.link
    have hext' : s.link.Extends (((s.loseInFlight c op).losePending p).setUnitState m.target .free).link gone := by
      simpa using hext
    have hplaced := State.endCopy_placed ho (hext'.open hopen fun h => hnot (hgone h)) (hext'.nodup hnd) c .channel
    rw [← State.loseAssigned_of_assigned (hspares.moves ▸ hm) hph, (State.setUnitState_handed _ _ _).bindingOf,
      (State.handed_before_assigned hst p).bindingOf] at hplaced
    simpa [State.handBack] using hplaced

end

/-! ### The unit of a lost erase or COPY -/

theorem discarded_not_waiting (u : UnitRec) : (discarded u).state ≠ .waiting := by
  unfold discarded
  dsimp only
  split <;> simp

/-- What the discard of the unit of a lost erase or COPY leaves to the checkpoint unit and the state control. -/
structure State.Discards (s t : State) (gone : List Byte) : Prop where
  ckpt : t.ckpt = s.ckpt
  formatRec : t.formatRec = s.formatRec
  failed : t.counter .checkpointsFailed = s.counter .checkpointsFailed
  leaving : ∀ k : Ckpt, (t.units.filter k.lets).length = (s.units.filter k.lets).length
  link : s.link.Extends t.link gone

theorem State.discardToHead_discards {s : State} {g : Nat} {u : UnitRec} (hkeys : s.keysLawful = true)
    (hu : s.unit? g = some u) (hnot : u.state ≠ .waiting) : s.Discards (s.discardToHead g) [] where
  ckpt := by simp
  formatRec := by simp
  failed := s.discardToHead_counter g (by decide) (by decide)
  leaving := State.discardToHead_lets hkeys hu hnot
  link := s.discardToHead_extends g

theorem State.endCopy_counter (s : State) (c : Fin 4) (m : Move) (why : MoveReason) {j : Counter}
    (hj : j ≠ .noticesCoalesced) (hf : j ≠ .movesFailed) (ha : j ≠ .movesAbandoned) :
    (s.endCopy c m why).counter j = s.counter j := by
  rw [State.endCopy_counted _ _ _ _ _ hj, Move.endStatus_counter]
  split <;> simp [hf, ha]

theorem State.loseCopy_discards {s : State} {c : Fin 4} {m : Move} {u : UnitRec} (hkeys : s.keysLawful = true)
    (hm : s.moves[c] = some m) (hu : s.unit? m.target = some u) (hnot : u.state ≠ .waiting) :
    s.Discards (s.loseCopy c) m.origin.tag := by
  have h := State.discardToHead_discards hkeys hu hnot
  rw [State.loseCopy_of_move hm]
  exact ⟨by simp, by simp,
    (State.endCopy_counter _ _ _ _ (by decide) (by decide) (by decide)).trans h.failed,
    by simpa using h.leaving, h.link.trans (State.endCopy_extends _ _ _ _)⟩

theorem State.Returns.map {s t : State} (h : s.Returns t) : t.map = s.map := by
  cases h <;> simp

section
variable {s : State} (hst : s.startup.stage = .ended) (hkeys : s.keysLawful = true) {c : Fin 4} {op : Op}
  (p : Option ImageWork) {g : Nat} {u : UnitRec} (hc : chanOf g = c)
include hst hkeys hc

/-- R40, R87: a unit that went back to the unit manager stays where it was put while the rest is handed back. -/
theorem State.losePending_discarded (hunit : (s.loseInFlight c op).unit? g = some (discarded u))
    (hhead : u.retirePending = false → ((s.loseInFlight c op).eraseQueues[chanOf g]).head? = some g) :
    ((s.loseInFlight c op).losePending p).unit? g = some (discarded u) ∧
    (u.retirePending = false → (((s.loseInFlight c op).losePending p).eraseQueues[c]).head? = some g) := by
  subst hc
  have hr := State.losePending_returns (State.loseInFlight_ended hst (chanOf g) op) p
  exact ⟨hr.unit ((State.loseInFlight_handed hst _ op).keysLawful hkeys) hunit (discarded_not_waiting u),
    fun h => hr.head (hhead h)⟩

/-- R40: the unit of a lost erase. -/
theorem State.handBack_erase {j : Nat} (howner : op.owner = .unitManager) (hkind : op.kind = .erase j)
    (hg : globalOf c j = g) (hu : s.unit? g = some u) (hmove : ∀ m, s.moves[c] = some m → m.target ≠ g) :
    (s.handBack c op p).unit? g = some (discarded u) ∧
    (u.retirePending = false → ((s.handBack c op p).eraseQueues[c]).head? = some g) := by
  have hlose : s.loseInFlight c op = s.discardToHead g := by rw [s.loseInFlight_erase c howner hkind, hg]
  obtain ⟨hunit, hhead⟩ := State.discardToHead_unit hu
  obtain ⟨hunit, hhead⟩ := State.losePending_discarded hst hkeys (op := op) p hc (by rw [hlose]; exact hunit)
    (by rw [hlose]; exact hhead)
  have hmoves := (State.sparesMoves_before_assigned hst (c := c) p (op := op) (by rw [howner]; decide)).moves
  refine ⟨?_, fun h => by simpa [State.handBack] using hhead h⟩
  rw [State.handBack]
  generalize (s.loseInFlight c op).losePending p = r at hunit hmoves ⊢
  obtain h | ⟨m, hm, -, h⟩ := r.loseAssigned_cases c
  · rw [h]; exact hunit
  · rw [h, State.unit?_of_units (s := r.setUnitState m.target .free) (by simp), State.unit?_setUnitState,
      if_neg (Ne.symm (hmove m (hmoves ▸ hm)))]
    exact hunit

/-- R87: the move of a lost COPY leaves the list, with its target and its logical's move reference. -/
theorem State.handBack_copy {m : Move} (hm : s.moves[c] = some m) (howner : op.owner = .relocation)
    (hg : m.target = g) (hu : s.unit? g = some u) :
    (s.handBack c op p).moves = s.moves.set c none ∧ (s.handBack c op p).unit? g = some (discarded u) ∧
    (u.retirePending = false → ((s.handBack c op p).eraseQueues[c]).head? = some g) ∧
    (m.phase ≠ .abandoning →
      (s.handBack c op p).map = s.map.modify m.logical fun r => { r with move := none }) := by
  subst hg
  have hlose : s.loseInFlight c op = (s.discardToHead m.target).endCopy c m .channel := by
    rw [s.loseInFlight_copy c howner, State.loseCopy_of_move hm]
  obtain ⟨hunit, hhead⟩ := State.discardToHead_unit hu
  obtain ⟨hunit, hhead⟩ := State.losePending_discarded hst hkeys (op := op) p hc
    (by rw [hlose, State.unit?_of_units (s := s.discardToHead m.target) (by simp)]; exact hunit)
    (by simpa [hlose] using hhead)
  have hr := State.losePending_returns (State.loseInFlight_ended hst c op) p
  have hmoves : ((s.loseInFlight c op).losePending p).moves = s.moves.set c none := by
    rw [hr.moves, hlose, State.endCopy_moves]; simp
  have hdone : s.handBack c op p = (s.loseInFlight c op).losePending p :=
    State.loseAssigned_of_none (by rw [hmoves]; simp)
  rw [hdone]
  refine ⟨hmoves, hunit, hhead, fun hph => ?_⟩
  rw [hr.map, hlose, State.endCopy_eq, if_neg hph]
  simp [State.clearMoveRef, State.modifyLogical]

end

/-! ### The checkpoint of a lost operation, in flight or pending -/

theorem State.loseAssigned_counter (s : State) (c : Fin 4) {j : Counter} (hj : j ≠ .noticesCoalesced)
    (hf : j ≠ .movesFailed) (ha : j ≠ .movesAbandoned) : (s.loseAssigned c).counter j = s.counter j := by
  obtain h | ⟨m, -, -, h⟩ := s.loseAssigned_cases c
  · rw [h]
  · rw [h, State.endCopy_counter _ _ _ _ hj hf ha]; exact State.counter_of_counters (by simp) j

/-- R106: with no checkpoint in flight nothing more happens to the checkpoint unit. -/
theorem State.Returns.idle {s t : State} (h : s.Returns t) (hfl : s.ckpt.flight = none) :
    t.ckpt = s.ckpt ∧ t.counters = s.counters := by
  cases h with
  | kept => exact ⟨rfl, rfl⟩
  | format => simp
  | checkpoint lost => rw [State.checkpointFails_of_none hfl]; exact ⟨rfl, rfl⟩

/-- R106, R108: the end of a checkpoint of the host. -/
theorem State.checkpointEnds_placed {s : State} {fl : Flight} {tag : Byte} (ho : fl.origin = .host tag)
    (hopen : tag ∈ s.link.openTags) (hnd : s.link.openTags.Nodup) (k : Ckpt) (counter : Counter) (st : Status)
    (why : CkptReason) : (s.checkpointEnds k counter fl st why).link.Placed tag
      (checkpointRecord tag st fl.snapshot.generation fl.target why (s.units.filter k.lets).length) := by
  rw [State.checkpointEnds_host _ _ _ _ _ _ ho hopen]
  exact Link.complete_placed hnd tag _

/-- R103: the checkpoint unit after the loss of an operation of its own, which may have written the image. -/
def Ckpt.failed (k : Ckpt) (fl : Flight) (lost : Bool) : Ckpt :=
  { k with flight := none, unconfirmed := if lost then fl.snapshot.bound else k.unconfirmed }

section
variable {s : State} {c : Fin 4} {op : Op} (p : Option ImageWork) {fl : Flight} (hfl : s.ckpt.flight = some fl)
include hfl

section
variable (howner : op.owner = .checkpoint)
include howner

theorem State.loseInFlight_flight : s.loseInFlight c op =
    s.checkpointEnds (s.ckpt.failed fl op.kind.writesImage) .checkpointsFailed fl .checkpointFailed .channel := by
  rw [s.loseInFlight_checkpoint c howner, State.checkpointFails_ends hfl]; rfl

theorem State.handBack_checkpoint (hst : s.startup.stage = .ended) :
    (s.handBack c op p).ckpt = s.ckpt.failed fl op.kind.writesImage ∧
    (s.handBack c op p).counter .checkpointsFailed = s.counter .checkpointsFailed + 1 := by
  have hckpt : (s.loseInFlight c op).ckpt = s.ckpt.failed fl op.kind.writesImage := by
    rw [State.loseInFlight_flight hfl howner]; simp
  obtain ⟨hk, hcounters⟩ := (State.losePending_returns (State.loseInFlight_ended hst c op) p).idle (by rw [hckpt]; rfl)
  refine ⟨by simp [State.handBack, hk, hckpt], ?_⟩
  rw [State.handBack, State.loseAssigned_counter _ _ (by decide) (by decide) (by decide),
    State.counter_of_counters hcounters, State.loseInFlight_flight hfl howner,
    State.checkpointEnds_counted _ _ _ _ _ _ _ (by decide)]
  rfl

theorem State.handBack_checkpoint_placed {tag : Byte} (ho : fl.origin = .host tag) (hopen : tag ∈ s.link.openTags)
    (hnd : s.link.openTags.Nodup) : (s.handBack c op p).link.Placed tag
      (checkpointRecord tag .checkpointFailed fl.snapshot.generation fl.target .channel
        (s.units.filter (s.ckpt.failed fl op.kind.writesImage).lets).length) := by
  refine Link.Placed.grows ?_ (s.handBack_grows_inFlight c op p)
  rw [State.loseInFlight_flight hfl howner]
  exact State.checkpointEnds_placed ho hopen hnd _ _ _ _

end

/-- R127, step 4: a checkpoint whose operation waits on the channel fails behind the unit that is discarded. -/
theorem State.handBack_pending_checkpoint {gone : List Byte} (hdisc : s.Discards (s.loseInFlight c op) gone)
    {w : ImageWork} (hw : w.owner = .checkpoint) :
    (s.handBack c op (some w)).ckpt = s.ckpt.failed fl false ∧
    (s.handBack c op (some w)).counter .checkpointsFailed = s.counter .checkpointsFailed + 1 ∧
    ∀ tag, fl.origin = .host tag → tag ∈ s.link.openTags → s.link.openTags.Nodup → tag ∉ gone →
      (s.handBack c op (some w)).link.Placed tag (checkpointRecord tag .checkpointFailed fl.snapshot.generation fl.target
        .channel (s.units.filter (s.ckpt.failed fl false).lets).length) := by
  have hfl' : (s.loseInFlight c op).ckpt.flight = some fl := by rw [hdisc.ckpt]; exact hfl
  have hpending : (s.loseInFlight c op).losePending (some w) = (s.loseInFlight c op).checkpointEnds
      (s.ckpt.failed fl false) .checkpointsFailed fl .checkpointFailed .channel := by
    simp only [State.losePending, hw]
    rw [State.checkpointFails_ends hfl', hdisc.ckpt]; rfl
  refine ⟨by simp [State.handBack, hpending], ?_, fun tag ho hopen hnd hnot => ?_⟩
  · rw [State.handBack, State.loseAssigned_counter _ _ (by decide) (by decide) (by decide), hpending,
      State.checkpointEnds_counted _ _ _ _ _ _ _ (by decide), hdisc.failed]
    rfl
  · refine Link.Placed.grows ?_ (State.loseAssigned_grows _ c)
    rw [hpending, ← hdisc.leaving]
    exact State.checkpointEnds_placed ho (hdisc.link.open hopen hnot) (hdisc.link.nodup hnd) _ _ _ _

end

/-! ### The FORMAT of a lost operation -/

/-- R150: a FORMAT that has failed has ended, whatever else is handed back. -/
theorem State.handBack_format {s : State} (hst : s.startup.stage = .ended) {c : Fin 4} {op : Op} (p : Option ImageWork)
    (hd : (s.loseInFlight c op).device = .failed .slot) (hrec : (s.loseInFlight c op).formatRec = none) :
    (s.handBack c op p).device = .failed .slot ∧ (s.handBack c op p).formatRec = none := by
  have hr := State.losePending_returns (State.loseInFlight_ended hst c op) p
  obtain ⟨hd', hrec'⟩ | ⟨hsome, -⟩ := hr.control
  · simp [State.handBack, hd', hrec', hd, hrec]
  · simp [hrec] at hsome

/-- The device is FAILED(SLOT) with no FORMAT, and a host's FORMAT has its record with the reason CHANNEL (R150). -/
structure State.FormatLost (s t : State) (fr : FormatRec) : Prop where
  device : t.device = .failed .slot
  formatRec : t.formatRec = none
  placed : ∀ tag, fr.origin = .host tag → tag ∈ s.link.openTags → s.link.openTags.Nodup →
    t.link.Placed tag (formatFailedRecord tag .channel fr.step)

section
variable {s : State} {c : Fin 4} {op : Op} {fr : FormatRec} (hfr : s.formatRec = some fr)
include hfr

theorem State.formatFails_lost : s.FormatLost (s.formatFails .channel) fr where
  device := by simp [hfr]
  formatRec := by simp
  placed _ ho hopen hnd := State.formatFails_placed hfr ho hopen hnd .channel

theorem State.handBack_format_erase (hst : s.startup.stage = .ended) (p : Option ImageWork) {j : Nat}
    (howner : op.owner = .stateControl) (hkind : op.kind = .erase j) : s.FormatLost (s.handBack c op p) fr := by
  have h := State.formatFails_lost hfr
  rw [← s.loseInFlight_format c howner hkind] at h
  obtain ⟨hd, hrec⟩ := State.handBack_format hst p h.device h.formatRec
  exact ⟨hd, hrec, fun tag ho hopen hnd => (h.placed tag ho hopen hnd).grows (s.handBack_grows_inFlight c op p)⟩

theorem State.handBack_format_checkpoint (hst : s.startup.stage = .ended) (hkeys : s.keysLawful = true)
    (p : Option ImageWork) {fl : Flight} (hfl : s.ckpt.flight = some fl) (howner : op.owner = .checkpoint)
    (ho : fl.origin = .format) : s.FormatLost (s.handBack c op p) fr := by
  have hlose := State.loseInFlight_flight (c := c) hfl howner
  obtain ⟨hrec, hd⟩ := State.checkpointEnds_format s (s.ckpt.failed fl op.kind.writesImage) .checkpointsFailed fl
    .checkpointFailed .channel ho hfr
  obtain ⟨-, hhost⟩ := State.checkpointEnds_format_link (s.ckpt.failed fl op.kind.writesImage) .checkpointsFailed fl
    .checkpointFailed .channel hkeys ho hfr
  rw [← hlose] at hrec hd hhost
  obtain ⟨hd, hrec⟩ := State.handBack_format hst p hd hrec
  refine ⟨hd, hrec, fun tag hto hopen hnd => Link.Placed.grows ?_ (s.handBack_grows_inFlight c op p)⟩
  rw [hhost tag hto hopen]
  exact Link.complete_placed hnd tag _

theorem State.handBack_format_pending (hdisc : s.Discards (s.loseInFlight c op) []) (j : Nat) :
    s.FormatLost (s.handBack c op (some ⟨.erase j, .stateControl⟩)) fr := by
  have h := State.formatFails_lost (s := s.loseInFlight c op) (hdisc.formatRec.trans hfr)
  have hpending : s.handBack c op (some ⟨.erase j, .stateControl⟩) =
      ((s.loseInFlight c op).formatFails .channel).loseAssigned c := rfl
  refine ⟨by simpa [hpending] using h.device, by simp [hpending], fun tag ho hopen hnd => ?_⟩
  exact (h.placed tag ho (hdisc.link.open hopen (by simp)) (hdisc.link.nodup hnd)).grows (State.loseAssigned_grows _ c)

end

/-! ### A lost start-up read, handed back -/

theorem State.handBack_readB {s : State} {c : Fin 4} {op : Op} (p : Option ImageWork) {j : Nat}
    (howner : op.owner = .stateControl) (hkind : op.kind = .readImage j) (hst : s.startup.stage = .readingB) :
    (s.handBack c op p).startup.stage = .ended ∧ (s.handBack c op p).device ≠ .starting := by
  have hlose : s.loseInFlight c op = s.judge (s.startup.slotA.getD .unread) .unread := by
    rw [s.loseInFlight_read c howner hkind]; simp only [State.readEnds, hst]
  obtain ⟨hended, hd⟩ := s.judge_ends (s.startup.slotA.getD .unread) .unread
  rw [← hlose] at hended hd
  have hr := State.losePending_returns (by rw [hended]) p
  refine ⟨by simp [State.handBack, hr.handed.startup, hended], ?_⟩
  obtain ⟨h, -⟩ | ⟨-, h, -⟩ := hr.control
  · simpa [State.handBack, h] using hd
  · simp [State.handBack, h]

/-- R139: with nothing else to hand back, the lost read ends UNREAD and start-up goes on. -/
theorem State.handBack_read {s : State} {c : Fin 4} {op : Op} {j : Nat} (howner : op.owner = .stateControl)
    (hkind : op.kind = .readImage j) (hm : s.moves[c] = none) : s.handBack c op none = s.readEnds .unread := by
  rw [← s.loseInFlight_read c howner hkind]
  refine State.loseAssigned_of_none (?_ : (s.loseInFlight c op).moves[c] = none)
  rw [s.loseInFlight_read c howner hkind, show (s.readEnds .unread).moves = s.moves by simp]
  exact hm

end Sys2Proof.Machine

/-! SUPPORT. A channel that faults: its record and notice, what the law says of the operation in flight, and where each
tag is (R116, R119, R127, R156); with O50. -/
namespace Sys2Proof.Machine

/-! ### The channel that has faulted -/

/-- R127, steps 1 and 2: the channel is FAULTED with its cause, and CHANNEL_FAULT is posted. -/
def State.faulted (s : State) (c : Fin 4) (cause : FaultCause) (op : Op) : State :=
  (s.setChannel c
    { s.channels[c] with state := .faulted, fault := some cause, inFlight := none, pendingImage := none }).post
    .channelFault (channelFaultNotice c cause op.kind s.tick)

theorem State.faultChannel_eq (s : State) (c : Fin 4) (cause : FaultCause) (op : Op) : s.faultChannel c cause op =
    (((s.faulted c cause op).handBack c op s.channels[c].pendingImage).reexamine.evaluate c).settle none := rfl

section
variable (s : State) (c : Fin 4) (cause : FaultCause) (op : Op)

@[simp] theorem State.faulted_frame :
    (s.faulted c cause op).pending = s.pending ∧ (s.faulted c cause op).resetLow = s.resetLow ∧
    (s.faulted c cause op).tick = s.tick ∧ (s.faulted c cause op).device = s.device ∧
    (s.faulted c cause op).startup = s.startup ∧ (s.faulted c cause op).formatRec = s.formatRec ∧
    (s.faulted c cause op).params = s.params ∧ (s.faulted c cause op).map = s.map ∧
    (s.faulted c cause op).waiters = s.waiters ∧ (s.faulted c cause op).units = s.units ∧
    (s.faulted c cause op).eraseQueues = s.eraseQueues ∧ (s.faulted c cause op).holds = s.holds ∧
    (s.faulted c cause op).moves = s.moves ∧ (s.faulted c cause op).ckpt = s.ckpt := by simp [State.faulted]

@[simp] theorem State.faulted_channels : (s.faulted c cause op).channels = s.channels.set c
    { s.channels[c] with state := .faulted, fault := some cause, inFlight := none, pendingImage := none } := by
  simp [State.faulted, State.setChannel]

theorem State.faulted_channel : (s.faulted c cause op).channels[c] =
    { s.channels[c] with state := .faulted, fault := some cause, inFlight := none, pendingImage := none } := by simp

theorem State.faulted_link : (s.faulted c cause op).link =
    s.link.post .channelFault (channelFaultNotice c cause op.kind s.tick) := by
  rw [State.faulted, State.post_link]; rfl

theorem State.faulted_counter {j : Counter} (hj : j ≠ .noticesCoalesced) :
    (s.faulted c cause op).counter j = s.counter j := State.post_counter _ _ _ hj

theorem State.faulted_extends : s.link.Extends (s.faulted c cause op).link [] := by
  rw [State.faulted_link]; exact Link.post_extends _ _ _

/-- The fault of a channel leaves what is read of neither its state nor its work. -/
theorem State.faulted_read {α : Type} (p : Channel → α) (hp : p { s.channels[c] with
      state := .faulted, fault := some cause, inFlight := none, pendingImage := none } = p s.channels[c]) :
    (s.faulted c cause op).channels.map p = s.channels.map p := by
  refine Vector.ext fun j hj => ?_
  rw [State.faulted_channels, Vector.getElem_map, Vector.getElem_map, Vector.getElem_set]
  split
  · next hc => subst hc; exact hp
  · rfl

end

theorem State.faulted_keysLawful {s : State} (h : s.keysLawful = true) (c : Fin 4) (cause : FaultCause) (op : Op) :
    (s.faulted c cause op).keysLawful = true :=
  State.keysLawful_of_keys h (by simp) (s.faulted_read c cause op (·.count) rfl)

section
variable {s : State} {c : Fin 4} (cause : FaultCause) (op : Op) (hon : s.channels[c].state = .online)
include hon

/-- R114: an ONLINE channel stays present when it faults. -/
theorem State.faulted_present (d : Fin 4) : (s.faulted c cause op).present d = s.present d := by
  have hread := s.faulted_read c cause op Channel.present (by simp only [Channel.present, hon])
  have h := Vector.ext_iff.1 hread d.val d.isLt
  rwa [Vector.getElem_map, Vector.getElem_map] at h

theorem State.faulted_presentBits : (s.faulted c cause op).presentBits = s.presentBits := by
  simp only [State.presentBits, State.faulted_present cause op hon]

theorem State.faulted_counts : (s.faulted c cause op).counts = s.counts :=
  s.faulted_read c cause op Channel.unitCount (by simp only [Channel.unitCount, Channel.present, hon])

end

/-! ### What the law says of the operation in flight -/

section
variable {s : State} (hlaw : s.lawful = true) {c : Fin 4}
include hlaw

section
variable {op : Op} (hop : s.channels[c].inFlight = some op)
include hop

theorem State.flightLawful_of_lawful : s.flightLawful c op = true := by
  obtain ⟨-, -, -, -, hflights, -⟩ := s.lawful_iff.1 hlaw
  simp only [State.flightsLawful, Bool.and_eq_true, List.all_eq_true] at hflights
  obtain ⟨hflights, -⟩ := hflights
  obtain ⟨hflight, -⟩ := hflights c (List.mem_finRange c)
  simpa only [hop] using hflight

/-- R116: but for the probe and a restart, operations are in flight on ONLINE channels only. -/
theorem State.online_of_flight (hrestart : op.owner ≠ .restart)
    (hprobe : ¬(op.owner = .stateControl ∧ (op.kind = .reset ∨ op.kind = .identify))) :
    s.channels[c].state = .online := by
  have hflight := State.flightLawful_of_lawful hlaw hop
  obtain ⟨kind, owner, start⟩ := op
  rw [← State.online_iff]
  cases owner with
  | restart => exact absurd rfl hrestart
  | unitManager | relocation | checkpoint | stateControl => cases kind <;> simp_all [State.flightLawful]

/-- R26, R119: the unit manager's erase is of an ERASING unit of the channel. -/
theorem State.erasing_of_flight (howner : op.owner = .unitManager) : ∃ j u, op.kind = .erase j ∧
    chanOf (globalOf c j) = c ∧ s.unit? (globalOf c j) = some u ∧ u.state = .erasing := by
  have hflight := State.flightLawful_of_lawful hlaw hop
  obtain ⟨kind, owner, start⟩ := op
  obtain rfl : owner = .unitManager := howner
  cases kind with
  | identify | reset | copy | readImage | writeImage => cases hflight
  | erase j =>
    simp only [State.flightLawful, Bool.and_eq_true, decide_eq_true_eq, beq_iff_eq, State.stateOf,
      Option.map_eq_some_iff] at hflight
    obtain ⟨⟨-, hj⟩, u, hu, hst⟩ := hflight
    refine ⟨j, u, rfl, Fin.ext ?_, hu, hst⟩
    have := c.isLt
    simp only [chanOf, globalOf, Fin.ofNat]
    omega

/-- R119: the relocation engine's operation is the COPY of the channel's move. -/
theorem State.move_of_flight (howner : op.owner = .relocation) : ∃ m, s.moves[c] = some m := by
  have hflight := State.flightLawful_of_lawful hlaw hop
  obtain ⟨kind, owner, start⟩ := op
  obtain rfl : owner = .relocation := howner
  cases kind with
  | identify | reset | erase | readImage | writeImage => cases hflight
  | copy a b =>
    simp only [State.flightLawful, Bool.and_eq_true, Option.isSome_iff_exists] at hflight
    exact hflight.2

end

/-- R71: the target of a move is a unit of the move's channel. -/
theorem State.target_unit {m : Move} (hm : s.moves[c] = some m) :
    chanOf m.target = c ∧ ∃ u, s.unit? m.target = some u ∧ u.state = .target m.logical := by
  have hmove := State.moveLawful_of_lawful hlaw hm
  simp only [State.moveLawful, Bool.and_eq_true, beq_iff_eq, State.stateOf, Option.map_eq_some_iff] at hmove
  obtain ⟨⟨⟨⟨⟨⟨-, hc⟩, -⟩, hu⟩, -⟩, -⟩, -⟩ := hmove
  exact ⟨hc, hu⟩

/-- R72: moves exist in READY only. -/
theorem State.ready_of_move {m : Move} (hm : s.moves[c] = some m) : s.device = .ready := by
  obtain ⟨-, -, -, -, -, -, hdevice⟩ := s.lawful_iff.1 hlaw
  simp only [State.deviceLawful, Bool.and_eq_true, Bool.or_eq_true, decide_eq_true_eq, List.all_eq_true] at hdevice
  obtain ⟨⟨⟨⟨hready, -⟩, -⟩, -⟩, -⟩ := hdevice
  refine hready.resolve_right fun ⟨⟨_, hnone⟩, _⟩ => ?_
  simpa using hnone (some m) (by rw [← hm]; simp)

/-- R138: start-up runs exactly while the device is STARTING. -/
theorem State.startup_ended_iff : s.startup.stage = .ended ↔ s.device ≠ .starting := by
  obtain ⟨-, -, -, -, -, -, hdevice⟩ := s.lawful_iff.1 hlaw
  simp only [State.deviceLawful, Bool.and_eq_true, beq_iff_eq] at hdevice
  obtain ⟨⟨⟨-, hstage⟩, -⟩, -⟩ := hdevice
  by_cases h : s.startup.stage = .ended <;> simp_all

theorem State.startup_ended_of_format {fr : FormatRec} (hfr : s.formatRec = some fr) : s.startup.stage = .ended := by
  rw [State.startup_ended_iff hlaw]
  obtain ⟨-, -, -, -, -, -, hdevice⟩ := s.lawful_iff.1 hlaw
  simp only [State.deviceLawful, Bool.and_eq_true, beq_iff_eq, hfr, Option.isSome_some, decide_eq_true_eq] at hdevice
  obtain ⟨⟨-, hformat⟩, -⟩ := hdevice
  simp [hformat]

theorem State.startup_ended_of_move {m : Move} (hm : s.moves[c] = some m) : s.startup.stage = .ended := by
  rw [State.startup_ended_iff hlaw, State.ready_of_move hlaw hm]; decide

theorem State.startup_ended_of_unit {g : Nat} {u : UnitRec} (hu : s.unit? g = some u) : s.startup.stage = .ended := by
  rw [State.startup_ended_iff hlaw]
  intro hd
  obtain ⟨-, -, -, -, -, -, hdevice⟩ := s.lawful_iff.1 hlaw
  simp only [State.deviceLawful, Bool.and_eq_true, hd, DeviceState.tableless, Bool.not_true, Bool.false_or,
    List.isEmpty_iff] at hdevice
  obtain ⟨⟨⟨⟨-, ⟨hunits, -⟩, -⟩, -⟩, -⟩, -⟩ := hdevice
  simp [State.unit?, unitIn, hunits] at hu

theorem State.no_move_of_startup (hst : s.startup.stage ≠ .ended) : s.moves[c] = none :=
  Option.eq_none_iff_forall_ne_some.2 fun _ hm => hst (State.startup_ended_of_move hlaw hm)

end

/-! ### Where the tags of moves, checkpoints and FORMATs are -/

section
variable {s : State} (h : TagInv s)
include h

theorem TagInv.lost_open {tag : Byte} (htag : tag ∈ s.lostTags) : tag ∈ s.link.openTags := by
  refine h.held.mem_iff.1 ?_
  simp only [State.lostTags, State.heldTags, List.mem_append] at htag ⊢
  exact htag.elim (fun hf => .inl (.inl (.inr hf))) .inr

theorem TagInv.checkpoint_open {fl : Flight} (hfl : s.ckpt.flight = some fl) {tag : Byte} (ho : fl.origin = .host tag) :
    tag ∈ s.link.openTags := h.lost_open (by simp [State.lostTags, hfl, ho, CkptOrigin.tag])

theorem TagInv.format_open {fr : FormatRec} (hfr : s.formatRec = some fr) {tag : Byte} (ho : fr.origin = .host tag) :
    tag ∈ s.link.openTags := h.lost_open (by simp [State.lostTags, hfr, ho, Origin.tag])

/-- R156: the tag of a host's MOVE is no checkpoint's and no FORMAT's. -/
theorem TagInv.move_not_lost {c : Fin 4} {m : Move} (hm : s.moves[c] = some m) {tag : Byte}
    (ho : tag ∈ m.origin.tag) : tag ∉ s.lostTags := by
  have hin : tag ∈ s.moves.toList.flatMap fun m => (m.map fun m => m.origin.tag).getD [] :=
    List.mem_flatMap.2 ⟨some m, by rw [← hm]; simp, ho⟩
  have hnot := h.held_nodup
  simp only [State.heldTags, List.nodup_append, List.mem_append] at hnot
  obtain ⟨⟨⟨-, -, hflight⟩, -, -⟩, -, hformat⟩ := hnot
  simp only [State.lostTags, List.mem_append, not_or]
  exact ⟨fun hf => hflight tag (.inr hin) tag hf rfl, fun hf => hformat tag (.inl (.inl (.inr hin))) tag hf rfl⟩

end

end Sys2Proof.Machine

/-! SUPPORT. A lost operation by its owner: the probe, a restart, and what stands after the fault of a channel (R124,
R126 to R128, R130, R133); with O50. -/
namespace Sys2Proof.Machine

/-! ### The loss of an operation -/

/-- R133: the reason of a restart that fails by the loss of its operation. -/
def FaultCause.restartReason : FaultCause → RestartReason
  | .deadline => .deadline
  | .protocol => .protocol

/-- R124, R126: while RESET_N is high a passed deadline and an unaccepted reply lose the operation in flight. -/
theorem exec_lost {s : State} {i : Instr} {c : Fin 4} {op : Op} {cause : FaultCause} (hrun : s.resetLow = false)
    (hop : s.channels[c].inFlight = some op)
    (hi : (i = .operationDeadline c ∧ op.kind.deadline ≤ (s.tick - op.start).toNat ∧ cause = .deadline) ∨
      (∃ r, i = .unacceptedReply c r ∧ op.kind.accepts r = false ∧ cause = .protocol)) :
    exec i s = .next (s.loseOperation c op cause cause.restartReason) := by
  obtain ⟨rfl, hd, rfl⟩ | ⟨r, rfl, hacc, rfl⟩ := hi
  · have hpassed : deadlinePassed s.tick op.start op.kind.deadline = true := decide_eq_true hd
    refine congrArg Host.Outcome.next ?_
    simp only [State.whenRunning, hrun, hop, hpassed, if_true]
    rfl
  · rw [exec_reply (r := r) (c := c) rfl hrun]
    simp only [State.replyArrives, hop, hacc]
    rfl

section
variable (s : State) (c : Fin 4) {op : Op} (cause : FaultCause) (why : RestartReason)

theorem State.loseOperation_probe (howner : op.owner = .stateControl) (hkind : op.kind = .reset ∨ op.kind = .identify) :
    s.loseOperation c op cause why = (s.probeAbsent c).settle (some c) := by
  obtain hkind | hkind := hkind <;> simp only [State.loseOperation, howner, hkind]

theorem State.loseOperation_restart (howner : op.owner = .restart) :
    s.loseOperation c op cause why = s.restartFails c cause why 0 := by simp only [State.loseOperation, howner]

theorem State.loseOperation_faults (hrestart : op.owner ≠ .restart)
    (hprobe : ¬(op.owner = .stateControl ∧ (op.kind = .reset ∨ op.kind = .identify))) :
    s.loseOperation c op cause why = s.faultChannel c cause op := by
  obtain ⟨kind, owner, start⟩ := op
  cases owner with
  | restart => exact absurd rfl hrestart
  | unitManager | relocation | checkpoint => rfl
  | stateControl =>
    cases kind with
    | reset => exact absurd ⟨rfl, .inl rfl⟩ hprobe
    | identify => exact absurd ⟨rfl, .inr rfl⟩ hprobe
    | erase | copy | readImage | writeImage => rfl

end

/-! ### After the fault -/

/-- R127, steps 1 to 5: the channel has faulted, and its work has gone back to the owners. -/
def State.afterFault (s : State) (c : Fin 4) (cause : FaultCause) (op : Op) : State :=
  (s.faulted c cause op).handBack c op s.channels[c].pendingImage

section
variable (s : State) (c : Fin 4) (cause : FaultCause) (op : Op)

theorem State.faulted_moves : (s.faulted c cause op).moves = s.moves := by simp

theorem State.faulted_units : (s.faulted c cause op).units = s.units := by simp

theorem State.faulted_ckpt : (s.faulted c cause op).ckpt = s.ckpt := by simp

theorem State.faulted_stage : (s.faulted c cause op).startup.stage = s.startup.stage := by simp

@[simp] theorem State.faulted_unit? (g : Nat) : (s.faulted c cause op).unit? g = s.unit? g :=
  State.unit?_of_units (by simp) g

@[simp] theorem State.faulted_bindingOf (n : Nat) : (s.faulted c cause op).bindingOf n = s.bindingOf n := by
  simp [State.bindingOf_eq]

@[simp] theorem State.faulted_lostTags : (s.faulted c cause op).lostTags = s.lostTags := by simp [State.lostTags]

theorem State.faulted_open {tag : Byte} (h : tag ∈ s.link.openTags) : tag ∈ (s.faulted c cause op).link.openTags :=
  (s.faulted_extends c cause op).open h (by simp)

theorem State.faulted_nodup (h : s.link.openTags.Nodup) : (s.faulted c cause op).link.openTags.Nodup :=
  (s.faulted_extends c cause op).nodup h

theorem State.afterFault_channel : (s.afterFault c cause op).channels[c] =
    { s.channels[c] with state := .faulted, fault := some cause, inFlight := none, pendingImage := none } := by
  have hrecord := s.faulted_channel c cause op
  rw [State.afterFault, State.handBack_channel op _ (by rw [hrecord]; exact ChannelState.noConfusion), hrecord]

theorem State.faulted_online_iff (d : Fin 4) : (s.faulted c cause op).channels[d].state = .online ↔
    s.channels[d].state = .online ∧ d ≠ c := by
  by_cases hd : d = c
  · subst hd; simp
  · have hval : c.val ≠ d.val := fun e => hd (Fin.ext e.symm)
    simp [hd, hval]

/-- R127: the notice of the fault stands before the records of what is handed back. -/
theorem State.afterFault_queue : (s.link.post .channelFault (channelFaultNotice c cause op.kind s.tick)).queue <+:
    (s.afterFault c cause op).link.queue := by
  rw [← State.faulted_link]
  exact (State.handBack_grows _ c op _).queue

theorem State.afterFault_frame : (s.afterFault c cause op).tick = s.tick ∧
    (s.afterFault c cause op).resetLow = s.resetLow ∧ (s.afterFault c cause op).pending = s.pending ∧
    (s.afterFault c cause op).holds = s.holds ∧ (s.afterFault c cause op).waiters = s.waiters := by
  simp [State.afterFault]

theorem State.afterFault_handed (hst : s.startup.stage = .ended) : s.map.length = (s.afterFault c cause op).map.length ∧
    (∀ n, (s.afterFault c cause op).bindingOf n = s.bindingOf n) ∧ (s.afterFault c cause op).params = s.params ∧
    ∀ g u, s.unit? g = some u →
      ∃ v, (s.afterFault c cause op).unit? g = some v ∧ v.wear = u.wear ∧ v.holds = u.holds := by
  have h : (s.faulted c cause op).Handed (s.afterFault c cause op) :=
    State.handBack_handed ((s.faulted_stage c cause op).trans hst) c op _
  exact ⟨by simpa using h.map_length.symm, fun n => by simpa using h.bindingOf n, by simpa using h.params,
    fun g u hu => h.charge (by simpa using hu)⟩

end

section
variable {s : State} (hlaw : s.lawful = true) {c : Fin 4} (cause : FaultCause) {op : Op}
  (hop : s.channels[c].inFlight = some op)
include hlaw

section
variable {m : Move} (hm : s.moves[c] = some m)
include hm

/-- R89: the record of a host's move that the fault ends. -/
theorem State.afterFault_move_placed (htag : TagInv s) {tag : Byte} (ho : m.origin = .host tag)
    (hlost : op.owner = .relocation ∨ m.phase = .assigned) : (s.afterFault c cause op).link.Placed tag
      (moveRecord tag m.endStatus c m .channel (s.bindingOf m.logical) s.tick) := by
  have hst := (s.faulted_stage c cause op).trans (State.startup_ended_of_move hlaw hm)
  have hnot : tag ∉ (s.faulted c cause op).lostTags := by
    rw [State.faulted_lostTags]
    exact htag.move_not_lost hm (by simp [ho, MoveOrigin.tag])
  have hplaced := State.handBack_move_placed hst s.channels[c].pendingImage (s.faulted_moves c cause op ▸ hm) hlost ho
    (s.faulted_open c cause op (htag.move_open hm tag ho)) (s.faulted_nodup c cause op htag.distinct) hnot
  simpa [State.afterFault] using hplaced

/-- R87: the move of a lost COPY. -/
theorem State.afterFault_copy {u : UnitRec} (howner : op.owner = .relocation) (hu : s.unit? m.target = some u) :
    (s.afterFault c cause op).moves = s.moves.set c none ∧
    (s.afterFault c cause op).unit? m.target = some (discarded u) ∧
    (u.retirePending = false → ((s.afterFault c cause op).eraseQueues[c]).head? = some m.target) ∧
    (m.phase ≠ .abandoning →
      (s.afterFault c cause op).map = s.map.modify m.logical fun r => { r with move := none }) := by
  have hst := (s.faulted_stage c cause op).trans (State.startup_ended_of_move hlaw hm)
  have hkeys := State.faulted_keysLawful (State.lawful_keys hlaw) c cause op
  have hcopy := State.handBack_copy hst hkeys s.channels[c].pendingImage (State.target_unit hlaw hm).1
    (s.faulted_moves c cause op ▸ hm) howner rfl (by simpa using hu)
  rwa [State.faulted_moves, show (s.faulted c cause op).map = s.map by simp] at hcopy

/-- R87: an ASSIGNED move. -/
theorem State.afterFault_assigned (howner : op.owner ≠ .relocation) (hph : m.phase = .assigned) :
    (s.afterFault c cause op).moves = s.moves.set c none ∧ (s.afterFault c cause op).stateOf m.target = some .free ∧
    (s.afterFault c cause op).counter .movesFailed = s.counter .movesFailed + 1 := by
  have hst := (s.faulted_stage c cause op).trans (State.startup_ended_of_move hlaw hm)
  obtain ⟨-, u, hu, -⟩ := State.target_unit hlaw hm
  have hassigned := State.handBack_assigned hst s.channels[c].pendingImage (s.faulted_moves c cause op ▸ hm) howner hph
    (u := u) (by simpa using hu)
  rwa [State.faulted_moves, State.faulted_counter _ _ _ _ (by decide)] at hassigned

end

include hop

/-- R40: the unit of a lost erase is ERASING, so it is the target of no move. -/
theorem State.afterFault_erase {j : Nat} {u : UnitRec} (howner : op.owner = .unitManager) (hkind : op.kind = .erase j)
    (hu : s.unit? (globalOf c j) = some u) : (s.afterFault c cause op).unit? (globalOf c j) = some (discarded u) ∧
    (u.retirePending = false → ((s.afterFault c cause op).eraseQueues[c]).head? = some (globalOf c j)) := by
  obtain ⟨j', u', hkind', hc, hu', hst⟩ := State.erasing_of_flight hlaw hop howner
  obtain rfl : j = j' := OpKind.erase.inj (hkind.symm.trans hkind')
  obtain rfl : u' = u := Option.some.inj (hu'.symm.trans hu)
  refine State.handBack_erase ((s.faulted_stage c cause op).trans (State.startup_ended_of_unit hlaw hu))
    (State.faulted_keysLawful (State.lawful_keys hlaw) c cause op) _ hc howner hkind rfl (by simpa using hu) ?_
  intro m hm heq
  have htarget := State.target_of_move hlaw (s.faulted_moves c cause op ▸ hm) (heq ▸ hu)
  simp [hst] at htarget

/-- R127: the unit that a lost erase or COPY hands back, before anything else is. -/
theorem State.faulted_discards (howner : op.owner = .unitManager ∨ op.owner = .relocation) : ∃ gone,
    (s.faulted c cause op).Discards ((s.faulted c cause op).loseInFlight c op) gone ∧
    (op.owner = .unitManager → gone = []) ∧ (TagInv s → ∀ tag ∈ s.lostTags, tag ∉ gone) := by
  have hkeys := State.faulted_keysLawful (State.lawful_keys hlaw) c cause op
  obtain howner | howner := howner
  · obtain ⟨j, u, hkind, -, hu, hst⟩ := State.erasing_of_flight hlaw hop howner
    rw [State.loseInFlight_erase _ c howner hkind]
    exact ⟨[], State.discardToHead_discards hkeys (by simpa using hu) (by simp [hst]), fun _ => rfl, by simp⟩
  · obtain ⟨m, hm⟩ := State.move_of_flight hlaw hop howner
    obtain ⟨-, u, hu, hst⟩ := State.target_unit hlaw hm
    rw [State.loseInFlight_copy _ c howner]
    refine ⟨m.origin.tag, State.loseCopy_discards hkeys (s.faulted_moves c cause op ▸ hm) (by simpa using hu)
      (by simp [hst]), fun h => ?_, fun htag tag hlost hmove => htag.move_not_lost hm hmove hlost⟩
    rw [howner] at h; cases h

end

/-! ### The checkpoint and the FORMAT after the fault -/

/-- R127: with no image operation pending and no ASSIGNED move, only the lost operation is handed back. -/
theorem State.handBack_quiet {s : State} {c : Fin 4} {op : Op}
    (h : ∀ m, (s.loseInFlight c op).moves[c] = some m → m.phase ≠ .assigned) :
    s.handBack c op none = s.loseInFlight c op := by
  obtain hkept | ⟨m, hm, hph, -⟩ := (s.loseInFlight c op).loseAssigned_cases c
  · exact hkept
  · exact absurd hph (h m hm)

section
variable {s : State} {c : Fin 4} (cause : FaultCause) {op : Op} {fl : Flight} (hfl : s.ckpt.flight = some fl)
include hfl

section
variable (howner : op.owner = .checkpoint)
include howner

/-- R103: the checkpoint whose own operation is lost. -/
theorem State.afterFault_checkpoint (hst : s.startup.stage = .ended) :
    (s.afterFault c cause op).ckpt = s.ckpt.failed fl op.kind.writesImage ∧
    (s.afterFault c cause op).counter .checkpointsFailed = s.counter .checkpointsFailed + 1 := by
  have h := State.handBack_checkpoint (c := c) s.channels[c].pendingImage (s.faulted_ckpt c cause op ▸ hfl) howner
    ((s.faulted_stage c cause op).trans hst)
  rwa [State.faulted_ckpt, State.faulted_counter _ _ _ _ (by decide)] at h

theorem State.afterFault_checkpoint_placed (htag : TagInv s) {tag : Byte} (ho : fl.origin = .host tag) :
    (s.afterFault c cause op).link.Placed tag (checkpointRecord tag .checkpointFailed fl.snapshot.generation fl.target
      .channel (s.units.filter (s.ckpt.failed fl op.kind.writesImage).lets).length) := by
  simpa [State.afterFault] using State.handBack_checkpoint_placed s.channels[c].pendingImage
    (s.faulted_ckpt c cause op ▸ hfl) howner ho (s.faulted_open c cause op (htag.checkpoint_open hfl ho))
    (s.faulted_nodup c cause op htag.distinct)

/-- R106: with nothing else to hand back the notices are the fault's and the checkpoint's. -/
theorem State.afterFault_checkpoint_quiet (hpending : s.channels[c].pendingImage = none)
    (hmove : ∀ m, s.moves[c] = some m → m.phase ≠ .assigned) : s.afterFault c cause op =
      (s.faulted c cause op).checkpointEnds (s.ckpt.failed fl op.kind.writesImage) .checkpointsFailed fl
        .checkpointFailed .channel := by
  have hlose := State.loseInFlight_flight (c := c) (s.faulted_ckpt c cause op ▸ hfl) howner
  rw [State.faulted_ckpt] at hlose
  rw [State.afterFault, hpending, State.handBack_quiet, hlose]
  exact fun m hm => hmove m (by simpa [hlose] using hm)

end

/-- R127, step 4: the checkpoint whose operation waited on the channel. -/
theorem State.afterFault_pending_checkpoint (hlaw : s.lawful = true) (hop : s.channels[c].inFlight = some op)
    (howner : op.owner = .unitManager ∨ op.owner = .relocation) {w : ImageWork}
    (hpending : s.channels[c].pendingImage = some w) (hw : w.owner = .checkpoint) :
    (s.afterFault c cause op).ckpt = s.ckpt.failed fl false ∧
    (s.afterFault c cause op).counter .checkpointsFailed = s.counter .checkpointsFailed + 1 ∧
    (TagInv s → ∀ tag, fl.origin = .host tag → (s.afterFault c cause op).link.Placed tag
      (checkpointRecord tag .checkpointFailed fl.snapshot.generation fl.target .channel
        (s.units.filter (s.ckpt.failed fl false).lets).length)) := by
  obtain ⟨gone, hdisc, -, hgone⟩ := State.faulted_discards hlaw cause hop howner
  obtain ⟨hckpt, hcount, hplaced⟩ :=
    State.handBack_pending_checkpoint (s.faulted_ckpt c cause op ▸ hfl) hdisc hw
  rw [State.afterFault, hpending]
  refine ⟨by simpa using hckpt, by rwa [State.faulted_counter _ _ _ _ (by decide)] at hcount, fun htag tag ho => ?_⟩
  have hnot : tag ∉ gone := hgone htag tag (by simp [State.lostTags, hfl, ho, CkptOrigin.tag])
  simpa using hplaced tag ho (s.faulted_open c cause op (htag.checkpoint_open hfl ho))
    (s.faulted_nodup c cause op htag.distinct) hnot

end

/-- R150: the operation that is lost, or the one that waited, was the FORMAT's. -/
theorem State.afterFault_format {s : State} (hlaw : s.lawful = true) {c : Fin 4} (cause : FaultCause) {op : Op}
    (hop : s.channels[c].inFlight = some op) {fr : FormatRec} (hfr : s.formatRec = some fr)
    (howner : (∃ j, op.owner = .stateControl ∧ op.kind = .erase j) ∨
      (op.owner = .unitManager ∧ ∃ j, s.channels[c].pendingImage = some ⟨.erase j, .stateControl⟩) ∨
      (op.owner = .checkpoint ∧ ∃ fl, s.ckpt.flight = some fl ∧ fl.origin = .format)) :
    (s.faulted c cause op).FormatLost (s.afterFault c cause op) fr := by
  have hst := (s.faulted_stage c cause op).trans (State.startup_ended_of_format hlaw hfr)
  have hrec : (s.faulted c cause op).formatRec = some fr := by simpa using hfr
  obtain ⟨j, howner, hkind⟩ | ⟨howner, j, hpending⟩ | ⟨howner, fl, hfl, ho⟩ := howner
  · exact State.handBack_format_erase hrec hst _ howner hkind
  · obtain ⟨gone, hdisc, hgone, -⟩ := State.faulted_discards hlaw cause hop (.inl howner)
    rw [State.afterFault, hpending]
    exact State.handBack_format_pending hrec (hgone howner ▸ hdisc) j
  · exact State.handBack_format_checkpoint hrec hst (State.faulted_keysLawful (State.lawful_keys hlaw) c cause op) _
      (s.faulted_ckpt c cause op ▸ hfl) howner ho

/-! ### A start-up read after the fault -/

/-- R139: during start-up there is no move, so with no image operation pending the read alone is handed back. -/
theorem State.afterFault_read {s : State} (hlaw : s.lawful = true) {c : Fin 4} (cause : FaultCause) {op : Op} {j : Nat}
    (howner : op.owner = .stateControl) (hkind : op.kind = .readImage j) (hpending : s.channels[c].pendingImage = none)
    (hst : s.startup.stage ≠ .ended) : s.afterFault c cause op = (s.faulted c cause op).readEnds .unread := by
  rw [State.afterFault, hpending]
  exact State.handBack_read howner hkind (s.faulted_moves c cause op ▸ State.no_move_of_startup hlaw hst)

theorem judgeSlot_unread (counts : Vector Nat 4) (k : Slot) : judgeSlot counts k .unread = .unread := rfl

section
variable {s : State} {a : SlotRead} {ra : SlotResult} (hra : judgeSlot s.counts .a a = ra)
include hra

/-- R142, R143: slot B is UNREAD, and the image of slot A is loaded. -/
theorem State.judge_unread_loads {x : List Byte} (hvalid : ra = .valid) (hx : a = .bytes x) :
    (s.judge a .unread).device = .ready ∧ (s.judge a .unread).ckpt.durableSlot = some .a ∧
    (s.judge a .unread).link = s.link.post .started
      (startedNotice .ready s.presentBits ra .unread (some .a) (headerGeneration x)) := by
  have hload := chooseImage_a (b := .unread) hx (hra.trans hvalid) fun _ hb => nomatch hb
  rw [State.judge_loads hload, hra, judgeSlot_unread]
  exact ⟨by simp [State.loadImage], by simp [State.loadImage], by simp [State.post_link]⟩

/-- R142: slot B is UNREAD, and slot A holds no image to load. -/
theorem State.judge_unread_fails (hnot : ra ≠ .valid) {d : DeviceState}
    (hd : (if ra = .intact then .failed .geometry else .unformatted) = d) :
    (s.judge a .unread).device = d ∧
    (s.judge a .unread).link = s.link.post .started (startedNotice d s.presentBits ra .unread none 0) := by
  have hnone := chooseImage_none (counts := s.counts) (b := .unread) (by rwa [hra]) nofun
  have hd' : (if judgeSlot s.counts .a a = .intact ∨ judgeSlot s.counts .b .unread = .intact then
      .failed .geometry else .unformatted) = d := by rw [hra, judgeSlot_unread, ← hd]; simp
  rw [State.judge_fails hnone hd', hra, judgeSlot_unread]
  exact ⟨by simp, by rw [State.post_link]⟩

end

/-! ### The obligation -/

/-- Settles O50: the probe and a restart by their own ends, and otherwise the fault, owner by owner. -/
theorem lostOperationEndsByItsOwner : Obligations.LostOperationEndsByItsOwner := by
  intro s i c op cause hrun hlaw hop hi ch noticed b leaving
  have hexec := exec_lost hrun hop hi
  refine ⟨fun howner hkind => ?_, fun howner => ?_, fun hrestart hprobe => ?_⟩
  · exact hexec.trans (congrArg _ (s.loseOperation_probe c cause _ howner hkind))
  · rw [State.loseOperation_restart _ _ _ _ howner, State.restartFails_eq] at hexec
    refine ⟨_, hexec, s.endRestart_eq c _ _, fun tag ho hopen => ?_, s.endRestart_orphaned c _ _⟩
    refine (s.endRestart_host c _ _ ho hopen).trans ?_
    cases cause <;> rfl
  rw [State.loseOperation_faults _ _ _ _ hrestart hprobe, State.faultChannel_eq] at hexec
  have hon := State.online_of_flight hlaw hop hrestart hprobe
  have hplace : (s.faulted c cause op).slotBPlace = b :=
    State.slotBPlace_of_counts (State.faulted_counts cause op hon)
  have hstage := s.faulted_stage c cause op
  have hbits := State.faulted_presentBits cause op hon
  have hrecord := s.afterFault_channel c cause op
  obtain ⟨htick, hreset, hqueue, hholds, hwaiters⟩ := s.afterFault_frame c cause op
  refine ⟨s.afterFault c cause op, hexec, by rw [hrecord], by rw [hrecord], by rw [hrecord], by rw [hrecord],
    by rw [hrecord], s.afterFault_queue c cause op, htick, hreset, hqueue, hholds, hwaiters,
    fun hd => s.afterFault_handed c cause op ((State.startup_ended_iff hlaw).2 hd),
    fun j u howner hkind hu => State.afterFault_erase hlaw cause hop howner hkind hu,
    fun htag m tag hm ho hlost => State.afterFault_move_placed hlaw cause hm htag ho hlost,
    fun m u howner hm hu => ?_, fun m howner hm hph => State.afterFault_assigned hlaw cause hm howner hph,
    fun fl howner hd hfl => ?_, fun fl w howner hpending hw hfl => ?_, fun fr hfr howner => ?_,
    fun j howner hkind hst => ?_, fun j howner hkind hpending => ⟨fun hst hb hne => ?_, fun hst hb => ?_,
      fun a hst ha => ?_⟩⟩
  · obtain ⟨hmoves, hunit, hhead, hmap⟩ := State.afterFault_copy hlaw cause hm howner hu
    refine ⟨hmoves, hunit, hhead, fun r hr hph => ?_⟩
    rw [hmap (by rw [hph]; decide), List.getElem?_modify_eq, hr]
    rfl
  · intro u
    have hu : s.ckpt.failed fl op.kind.writesImage = { s.ckpt with flight := none, unconfirmed := u } := by
      cases hkind : op.kind <;> simp [u, hkind, Ckpt.failed, OpKind.writesImage]
    have hended := (State.startup_ended_iff hlaw).2 hd
    obtain ⟨hckpt, hcount⟩ := State.afterFault_checkpoint (c := c) cause hfl howner hended
    refine ⟨hckpt.trans hu, hcount, fun htag tag ho => ?_, fun hpending hmove => ?_⟩
    · have hplaced := State.afterFault_checkpoint_placed (c := c) cause hfl howner htag ho
      rw [hu] at hplaced
      exact hplaced
    · rw [State.afterFault_checkpoint_quiet cause hfl howner hpending hmove, hu]
      refine ⟨fun ho => ?_, fun ho => ?_⟩
      · rw [State.checkpointEnds_auto _ _ _ _ _ _ ho, State.faulted_link, State.faulted_units]
        rfl
      · rw [State.checkpointEnds_orphaned _ _ _ _ _ _ ho, State.faulted_link]
  · exact State.afterFault_pending_checkpoint cause hfl hlaw hop howner hpending hw
  · obtain ⟨hd, hrec, hplaced⟩ := State.afterFault_format hlaw cause hop hfr howner
    exact ⟨hd, hrec, fun htag tag ho => hplaced tag ho (s.faulted_open c cause op (htag.format_open hfr ho))
      (s.faulted_nodup c cause op htag.distinct)⟩
  · exact State.handBack_readB _ howner hkind (hstage.trans hst)
  · rw [State.afterFault_read hlaw cause howner hkind hpending (by rw [hst]; decide),
      State.readEnds_readingA (hstage.trans hst),
      State.startReadB_online hplace ((s.faulted_online_iff c cause op b.1).2 ⟨hb, hne⟩)]
    exact ⟨by simp, rfl, by simp, s.faulted_link c cause op⟩
  · have hoff : (s.faulted c cause op).channels[b.1].state ≠ .online := by
      rw [Ne, State.faulted_online_iff]
      exact fun ⟨hon, hne⟩ => hb.elim (· hon) hne
    rw [State.afterFault_read hlaw cause howner hkind hpending (by rw [hst]; decide),
      State.readEnds_readingA (hstage.trans hst), State.startReadB_offline hplace hoff, ← hbits]
    obtain ⟨hd, hlink⟩ := State.judge_unread_fails (s := s.faulted c cause op) (judgeSlot_unread _ _)
      (by decide) (if_neg (by decide))
    exact ⟨hd, (State.judge_ends _ _ _).1, hlink.trans (by rw [State.faulted_link])⟩
  · intro ra d
    rw [State.afterFault_read hlaw cause howner hkind hpending (by rw [hst]; decide),
      State.readEnds_readingB (hstage.trans hst) (by simpa using ha), ← hbits]
    have hra : judgeSlot (s.faulted c cause op).counts .a a = ra := by rw [State.faulted_counts cause op hon]
    have hlink : noticed = (s.faulted c cause op).link := (s.faulted_link c cause op).symm
    rw [hlink]
    exact ⟨(State.judge_ends _ _ _).1, fun x => State.judge_unread_loads hra, fun hnot =>
      State.judge_unread_fails hra hnot rfl⟩

end Sys2Proof.Machine

/-! SUPPORT. The device state (R135, R136): where the end of an operation may take it, where a request or another event
may, and that all these are the edges of its table; with O56. -/
namespace Sys2Proof.Machine

/-! ### The edges at the end of an operation -/

/-- R150: the device state stays as it is, or a FORMAT fails. -/
def DeviceState.LosesFormat (d d' : DeviceState) : Prop := d' = d ∨ (d = .formatting ∧ d' = .failed .slot)

/-- R136: the device state stays as it is, or start-up or a FORMAT ends. -/
inductive DeviceState.Ends : DeviceState → DeviceState → Prop where
  | same (d : DeviceState) : Ends d d
  | noMedia : Ends .starting (.failed .noMedia)
  | loaded : Ends .starting .ready
  | geometry : Ends .starting (.failed .geometry)
  | unformatted : Ends .starting .unformatted
  | formatted : Ends .formatting .ready
  | formatFails : Ends .formatting (.failed .slot)

theorem DeviceState.Ends.of_eq {d d' : DeviceState} (h : d' = d) : Ends d d' := h ▸ .same d

theorem DeviceState.LosesFormat.ends {d d' : DeviceState} (h : d.LosesFormat d') : Ends d d' := by
  obtain rfl | ⟨rfl, rfl⟩ := h
  · exact .same _
  · exact .formatFails

/-- One claim may end several operations: neither start-up nor a FORMAT ends in a state in which another may end. -/
theorem DeviceState.Ends.trans {a b c : DeviceState} (h : Ends a b) (h' : Ends b c) : Ends a c := by
  cases h with
  | same => exact h'
  | noMedia => cases h'; exact .noMedia
  | loaded => cases h'; exact .loaded
  | geometry => cases h'; exact .geometry
  | unformatted => cases h'; exact .unformatted
  | formatted => cases h'; exact .formatted
  | formatFails => cases h'; exact .formatFails

/-- R136: the ends of start-up and of a FORMAT are edges of the table at a reply and at a deadline. -/
theorem DeviceState.Ends.edge {i : Instr} (hi : endsOperation i = true) {d d' : DeviceState} (h : Ends d d') :
    d' = d ∨ DeviceEdge i d d' := by
  cases h with
  | same => exact .inl rfl
  | noMedia => exact .inr (.noMedia hi)
  | loaded => exact .inr (.loaded hi)
  | geometry => exact .inr (.geometry hi)
  | unformatted => exact .inr (.unformatted hi)
  | formatted => exact .inr (.formatted hi)
  | formatFails => exact .inr (.formatFails (.inl hi))

theorem endsOperation_of_reply {i : Instr} (h : (replyOf i).isSome = true) : endsOperation i = true := by
  unfold endsOperation
  split
  · rfl
  · exact h

/-! ### The ends of a FORMAT and of a checkpoint -/

section
variable {s : State} (h : DeviceInv s)
include h

theorem DeviceInv.frame {t : State} (hst : t.device = s.device ∧ t.startup = s.startup ∧ t.formatRec = s.formatRec) :
    DeviceInv t := by
  obtain ⟨hdevice, hstartup, hformat⟩ := hst
  rw [DeviceInv, hdevice, hstartup, hformat]
  exact h

theorem DeviceInv.formatFails_loses (why : FormatReason) : s.device.LosesFormat (s.formatFails why).device := by
  rw [State.formatFails_device]
  split
  · next hrec => exact .inr ⟨h.2.2 hrec, rfl⟩
  · exact .inl rfl

/-- R108, R109, R150: the report of a failure fails the FORMAT whose checkpoint it was. -/
theorem DeviceInv.reportCheckpoint_loses (f : Flight) {st : Status} (hst : st ≠ .ok) (why : CkptReason) (n : Nat) :
    s.device.LosesFormat (s.reportCheckpoint f st why n).device := by
  unfold State.reportCheckpoint
  split
  · exact .inl (by simp)
  · exact .inl (by simp)
  · rw [if_neg hst]; exact h.formatFails_loses _
  · exact .inl rfl

theorem DeviceInv.checkpointFails_loses (why : CkptReason) (lost : Bool) :
    s.device.LosesFormat (s.checkpointFails why lost).device := by
  unfold State.checkpointFails
  split
  · exact .inl rfl
  · next f _ =>
    let s1 := s.setCkpt { s.ckpt with
      unconfirmed := if lost then f.snapshot.bound else s.ckpt.unconfirmed, flight := none }
    have h2 : DeviceInv (s1.sortCommitWait.count .checkpointsFailed) := h.frame (by simp [s1])
    simpa [s1] using h2.reportCheckpoint_loses f (st := .checkpointFailed) (by decide) why s1.leavingUnits.length

/-- R104, R149: the success of a FORMAT's checkpoint makes the device READY. -/
theorem DeviceInv.checkpointSucceeds_ends : s.device.Ends s.checkpointSucceeds.device := by
  unfold State.checkpointSucceeds
  split
  · exact .same _
  · dsimp only
    rw [State.reportCheckpoint_ok_device]
    split
    · split
      · next hrec =>
        have hd : s.device = .formatting := h.2.2 (by simpa using hrec)
        rw [hd]; exact .formatted
      · exact .of_eq (by simp)
    · exact .of_eq (by simp)

/-- R100, R101, R103: an operation that cannot be placed fails the checkpoint. -/
theorem DeviceInv.placeCheckpointOp_loses (k : Slot) (kind : OpKind) :
    s.device.LosesFormat (s.placeCheckpointOp k kind).device := by
  unfold State.placeCheckpointOp
  split
  · exact .inl (by simp)
  · exact h.checkpointFails_loses _ _

theorem DeviceInv.slotErased_loses (c : Fin 4) : s.device.LosesFormat (s.slotErased c).device := by
  unfold State.slotErased
  split
  · exact .inl (by simp)
  · next f _ =>
    let s1 := s.setCkpt { s.ckpt with unconfirmed := [], flight := some { f with phase := .writing } }
    have h1 : DeviceInv s1 := h.frame (by simp [s1])
    simpa [s1] using h1.placeCheckpointOp_loses f.target (.writeImage (s.slotIndex f.target) f.snapshot.image)

/-- R147: a slot erase that cannot be placed fails the FORMAT. -/
theorem DeviceInv.placeFormatErase_loses (k : Slot) : s.device.LosesFormat (s.placeFormatErase k).device := by
  unfold State.placeFormatErase
  split
  · exact .inl (by simp)
  · exact h.formatFails_loses _

theorem DeviceInv.formatEraseDone_loses : s.device.LosesFormat s.formatEraseDone.device := by
  unfold State.formatEraseDone
  split
  · exact .inl rfl
  · next f hrec =>
    split
    · have h1 : DeviceInv (s.setFormatRec (some { f with step := .eraseA })) :=
        ⟨by simpa using h.1, by simpa [hrec] using h.2⟩
      exact h1.placeFormatErase_loses .a
    · exact .inl (by simp)
    · exact .inl rfl

end

/-- R148: the tables that the unit reset of a FORMAT leaves to its checkpoint. -/
def State.resetTables (s : State) (f : FormatRec) : State :=
  (((s.setUnits (s.resetUnits f)).setEraseQueues (dirtyQueues (s.resetUnits f))).setMap
    (List.replicate f.l.toNat ⟨none, 0, none⟩)).setParams { s.params with sMin := f.sMin }

@[simp] theorem State.resetTables_frame (s : State) (f : FormatRec) : (s.resetTables f).device = s.device ∧
    (s.resetTables f).startup = s.startup ∧ (s.resetTables f).formatRec = s.formatRec := by simp [State.resetTables]

theorem State.unitReset_eq (s : State) (f : FormatRec) :
    s.unitReset f = (s.resetTables f).startFormatCheckpoint.settle none := rfl

section
variable {s : State} (h : DeviceInv s)
include h

/-- R113: the FORMAT's checkpoint starts, or fails the FORMAT. -/
theorem DeviceInv.startFormatCheckpoint_loses : s.device.LosesFormat s.startFormatCheckpoint.device := by
  let s1 := s.setCkpt { s.ckpt with
    flight := some ⟨.writing, .format, s.targetSlot, s.takeSnapshot s.targetSlot⟩ }
  have h1 : DeviceInv s1 := h.frame (by simp [s1])
  exact h1.placeCheckpointOp_loses _ _

/-- R148, R149: the unit reset starts the FORMAT's checkpoint, or fails the FORMAT. -/
theorem DeviceInv.unitReset_loses (f : FormatRec) : s.device.LosesFormat (s.unitReset f).device := by
  have h3 : DeviceInv (s.resetTables f) := h.frame (by simp)
  simpa [State.unitReset_eq] using h3.startFormatCheckpoint_loses

/-! ### The ends of start-up -/

/-- R135: start-up goes on in STARTING alone. -/
theorem DeviceInv.starting (hst : s.startup.stage ≠ .ended) : s.device = .starting := h.1.2 hst

theorem DeviceInv.judge_ends (hst : s.startup.stage ≠ .ended) (a b : SlotRead) :
    s.device.Ends (s.judge a b).device := by
  rw [h.starting hst]
  unfold State.judge
  dsimp only
  split
  · rw [State.endStartup_device]; exact .loaded
  · split
    · rw [State.endStartup_device]; exact .geometry
    · rw [State.endStartup_device]; exact .unformatted

theorem DeviceInv.startReadB_ends (hst : s.startup.stage ≠ .ended) (a : SlotRead) :
    s.device.Ends (s.startReadB a).device := by
  unfold State.startReadB
  split
  · exact .of_eq (by simp)
  · exact h.judge_ends hst a .unread

theorem DeviceInv.readEnds_ends (r : SlotRead) : s.device.Ends (s.readEnds r).device := by
  unfold State.readEnds
  split
  · next hst => exact h.startReadB_ends (by simp [hst]) r
  · next hst => exact h.judge_ends (by simp [hst]) _ r
  · exact .same _
  · exact .same _

theorem DeviceInv.testProbeEnd_ends : s.device.Ends s.testProbeEnd.device := by
  unfold State.testProbeEnd
  split
  · next hend =>
    obtain ⟨hprobing, -⟩ := hend
    have hst : s.startup.stage ≠ .ended := by simp [hprobing]
    split
    · rw [State.endStartup_device, h.starting hst]; exact .noMedia
    · unfold State.startReadA
      split
      · exact .of_eq (by simp)
      · exact h.startReadB_ends hst .unread
  · exact .same _

theorem DeviceInv.setChannel_testProbeEnd_ends (c : Fin 4) (ch : Channel) :
    s.device.Ends (s.setChannel c ch).testProbeEnd.device := by
  simpa using (h.frame (t := s.setChannel c ch) (by simp)).testProbeEnd_ends

theorem DeviceInv.probeAbsent_ends (c : Fin 4) : s.device.Ends (s.probeAbsent c).device :=
  h.setChannel_testProbeEnd_ends c _

theorem DeviceInv.probeIdentifies_ends (c : Fin 4) (n : Word16) : s.device.Ends (s.probeIdentifies c n).device := by
  unfold State.probeIdentifies
  split
  · exact h.setChannel_testProbeEnd_ends c _
  · exact h.probeAbsent_ends c

end

/-! ### Channel faults and replies -/

section
variable {s : State} (h : s.CkptLawful)
include h

theorem State.CkptLawful.loseInFlight_ends (c : Fin 4) (op : Op) : s.device.Ends (s.loseInFlight c op).device := by
  unfold State.loseInFlight
  split
  · exact .of_eq (by simp)
  · exact .of_eq (by simp)
  · exact (h.device.checkpointFails_loses _ _).ends
  · exact (h.device.checkpointFails_loses _ _).ends
  · exact h.device.readEnds_ends _
  · exact (h.device.formatFails_loses _).ends
  · exact .same _
  · exact .same _

theorem State.CkptLawful.losePending_ends (w : Option ImageWork) : s.device.Ends (s.losePending w).device := by
  unfold State.losePending
  split
  · exact .same _
  · split
    · exact (h.device.checkpointFails_loses _ _).ends
    · exact h.device.readEnds_ends _
    · exact (h.device.formatFails_loses _).ends
    · exact .same _
    · exact .same _
    · exact .same _

/-- R127: the operation in flight and the pending one are handed back one after the other. -/
theorem State.CkptLawful.faultChannel_ends (c : Fin 4) (cause : FaultCause) (op : Op) :
    s.device.Ends (s.faultChannel c cause op).device := by
  have hfaulted : (s.faulted c cause op).CkptLawful := h.frame (by simp)
  have hlost := (hfaulted.loseInFlight_ends c op).trans
    ((hfaulted.loseInFlight c op).losePending_ends s.channels[c].pendingImage)
  simpa [State.faultChannel_eq, State.handBack] using hlost

theorem State.CkptLawful.loseOperation_ends (c : Fin 4) (op : Op) (cause : FaultCause) (why : RestartReason) :
    s.device.Ends (s.loseOperation c op cause why).device := by
  have hprobe : s.device.Ends ((s.probeAbsent c).settle (some c)).device := by
    simpa using h.device.probeAbsent_ends c
  unfold State.loseOperation
  split
  · exact hprobe
  · exact hprobe
  · exact .of_eq (by simp)
  all_goals exact h.faultChannel_ends c cause op

/-- R123: the replies to a checkpoint's operations, to a start-up read or probe, and to a FORMAT's slot erase may end
what they belong to; the others leave the device state alone. -/
theorem State.CkptLawful.handReply_ends (c : Fin 4) (op : Op) (r : Reply) :
    s.device.Ends (s.handReply c op r).device := by
  unfold State.handReply
  split
  · exact .of_eq (by simp)
  · exact .of_eq (by simp)
  · exact .of_eq (by simp)
  · exact .of_eq (by simp)
  · exact .of_eq (by simp)
  · exact (h.device.slotErased_loses c).ends
  · simpa [State.slotEraseFails] using (h.device.checkpointFails_loses .erase false).ends
  · simpa [State.imageWritten] using h.device.checkpointSucceeds_ends
  · simpa [State.imageWriteFails] using (h.device.checkpointFails_loses .program false).ends
  · simpa [State.readReplies] using h.device.readEnds_ends _
  · simpa [State.readReplies] using h.device.readEnds_ends _
  · simpa [State.formatSlotErased] using h.device.formatEraseDone_loses.ends
  · simpa [State.formatSlotEraseFails] using (h.device.formatFails_loses .erase).ends
  · exact .of_eq (by simp)
  · simpa using h.device.probeIdentifies_ends c _
  · exact .of_eq (by simp)
  · exact .of_eq (by simp)
  · exact .same _

theorem State.CkptLawful.replyArrives_ends (c : Fin 4) (r : Reply) : s.device.Ends (s.replyArrives c r).device := by
  unfold State.replyArrives
  split
  · exact .of_eq (by simp)
  · next op _ =>
    split
    · have hended : (s.endOp c).CkptLawful := h.frame (by simp)
      simpa using hended.handReply_ends c op r
    · exact h.loseOperation_ends c op _ _

end

/-! ### Requests -/

@[simp] theorem State.answerRetire_device (s : State) (f : Frame) : (s.answerRetire f).device = s.device := by
  unfold State.answerRetire; split <;> simp

@[simp] theorem State.reexamineAndAnswer_device (s : State) (f : Frame) :
    (s.reexamineAndAnswer f).device = s.device := by simp [State.reexamineAndAnswer]

@[simp] theorem State.markRetirePending_device (s : State) (g : Nat) : (s.markRetirePending g).device = s.device := by
  simp [State.markRetirePending]

@[simp] theorem State.retireTarget_device (s : State) (f : Frame) (g : Nat) :
    (s.retireTarget f g).device = s.device := by
  unfold State.retireTarget
  (repeat' split) <;> simp

/-- R96: a CHECKPOINT is refused, or starts on an ONLINE channel. -/
theorem checkpointEffect_device (f : Frame) (s : State) : (checkpointEffect f s).device = s.device := by
  unfold checkpointEffect
  split
  · simp
  · split
    · simp
    · next hon =>
      split
      · simp
      · simp [s.startCheckpoint_online _ (by simpa using hon)]

/-- R136: of the requests, ENTER_SERVICE, LEAVE_SERVICE and FORMAT alone change the device state. -/
theorem effectOf_device {k : ReqCode} (henter : k ≠ .enterService) (hleave : k ≠ .leaveService) (hformat : k ≠ .format)
    (f : Frame) (s : State) : (effectOf k f s).device = s.device := by
  cases k with
  | enterService | leaveService | format => contradiction
  | lookup => simp only [effectOf, lookupEffect, State.lookupHold, State.answerLookup]; (repeat' split) <;> simp
  | bind => simp only [effectOf, bindRequest]; (repeat' split) <;> simp
  | unbind => simp only [effectOf, unbindEffect, State.unbindLogical]; split <;> simp
  | move => simp only [effectOf, moveEffect]; (repeat' split) <;> simp
  | release => simp only [effectOf, releaseEffect, State.releaseHold]; split <;> simp
  | renew => simp only [effectOf, renewEffect]; split <;> simp
  | retire => simp only [effectOf, retireEffect, State.retireByState]; (repeat' split) <;> simp
  | queryUnit => simp only [effectOf, queryEffect]; split <;> simp
  | checkpoint => exact checkpointEffect_device f s
  | restartChannel => simp only [effectOf, restartEffect, State.startRestart]; (repeat' split) <;> simp
  | getParameter => simp only [effectOf, getParameterEffect]; split <;> simp
  | setParameter => simp only [effectOf, setParameterEffect]; (repeat' split) <;> simp
  | readCounter => simp only [effectOf, readCounterEffect]; split <;> simp
  | clearCounters => simp [effectOf, clearCountersEffect]

/-- R137: the device states in which a FORMAT is admitted. -/
theorem admitted_format (d : DeviceState) (hold : Bool) (h : admitted d .format hold = true) :
    d = .unformatted ∨ d = .service ∨ d = .failed .geometry ∨ d = .failed .slot := by
  cases d with
  | failed cause => cases cause <;> simp_all [admitted, admittedAlways]
  | starting | unformatted | formatting | ready | service =>
    simp_all [admitted, admittedAlways, admittedUnformatted, admittedReady, admittedService]

/-- R146, R147, R150: a FORMAT is refused, or makes the device FORMATTING, or fails in its own claim. -/
theorem formatEffect_device (f : Frame) (s : State) : (formatEffect f s).device = s.device ∨
    (formatEffect f s).device = .formatting ∨ (formatEffect f s).device = .failed .slot := by
  unfold formatEffect
  split
  · exact .inl (by simp)
  · refine .inr ?_
    simp only [State.settle_frame, State.placeFormatErase]
    split
    · exact .inl (by simp)
    · exact .inr (by simp)

/-- R136, R137: a request that the device state admits changes it along the request's own edge, if at all. -/
theorem effectOf_edge {s : State} {k : ReqCode} {f : Frame} (hadm : admitted s.device k f.flag0 = true) :
    (effectOf k f s).device = s.device ∨ DeviceEdge (requestCommand k) s.device (effectOf k f s).device := by
  obtain ⟨-, henter, hleave, -⟩ := admitted_control s.device f.flag0
  by_cases hk : k = .enterService
  · subst hk
    have hready : s.device = .ready := henter.1 hadm
    simp only [effectOf, enterServiceEffect]
    split
    · exact .inl (by simp)
    · split
      · exact .inl (by simp)
      · exact .inr (by simpa [hready] using DeviceEdge.enter (i := requestCommand .enterService) rfl)
  by_cases hk' : k = .leaveService
  · subst hk'
    have hservice : s.device = .service := hleave.1 hadm
    exact .inr (by
      simpa [effectOf, leaveServiceEffect, hservice] using DeviceEdge.leave (i := requestCommand .leaveService) rfl)
  by_cases hk'' : k = .format
  · subst hk''
    have hfrom := admitted_format s.device f.flag0 hadm
    obtain hd | hd | hd := formatEffect_device f s
    · exact .inl hd
    · exact .inr (by rw [effectOf, hd]; exact .format _ rfl hfrom)
    · exact .inr (by rw [effectOf, hd]; exact .formatLost _ rfl hfrom)
  · exact .inl (effectOf_device hk hk' hk'' f s)

theorem State.takeRequest_edge (s : State) (k : ReqCode) : (s.takeRequest k (effectOf k)).device = s.device ∨
    DeviceEdge (requestCommand k) s.device (s.takeRequest k (effectOf k)).device := by
  obtain he | ⟨f, rest, ⟨st, he⟩ | ⟨hadm, he⟩⟩ := s.takeRequest_admitted k (effectOf k)
  · exact .inl (by rw [he])
  · exact .inl (by simp [he, State.taken])
  · rw [he]; exact effectOf_edge (s := s.taken rest) hadm

/-! ### The other events -/

theorem releaseAndTests_device (gs : List Nat) (s : State) :
    (gs.foldl State.releaseAndTest s).device = s.device := by
  induction gs generalizing s with
  | nil => rfl
  | cons g gs ih => simp [ih, State.releaseAndTest]

theorem State.linkReset_device (s : State) : s.linkReset.device = s.device := by
  simp [State.linkReset, State.removeAllHolds, State.orphanAll, releaseAndTests_device]

/-- R136: of the other events, a hardware reset, a deadline and a FORMAT's unit reset may change the device state. -/
theorem IsEvent.exec_edge {i : Instr} {s t : State} (hi : IsEvent i) (hexec : exec i s = .next t)
    (h : s.CkptLawful) : t.device = s.device ∨ DeviceEdge i s.device t.device := by
  have running {f : State → State} (hf : (f s).device = s.device ∨ DeviceEdge i s.device (f s).device) :
      (s.whenRunning f).device = s.device ∨ DeviceEdge i s.device (s.whenRunning f).device :=
    State.whenRunning_of (P := fun u => u.device = s.device ∨ DeviceEdge i s.device u.device) (.inl rfl) hf
  cases hi with
  | hardwareReset => cases hexec; exact .inr (.reset _ rfl)
  | resetNRelease =>
    cases hexec
    refine .inl ?_
    split
    · rw [issueResets_eq]; rfl
    · rfl
  | tick => cases hexec; exact running (.inl rfl)
  | holdExpiry slot =>
    cases hexec
    refine running (.inl ?_)
    (repeat' split) <;> simp [State.expireHold]
  | operationDeadline c =>
    cases hexec
    refine running ?_
    split
    · split
      · exact (h.loseOperation_ends c _ _ _).edge rfl
      · exact .inl rfl
    · exact .inl rfl
  | request raw extra =>
    cases hexec
    refine running (.inl ?_)
    unfold State.takeFrame
    split <;> rfl
  | fetch extra => cases hexec; exact running (.inl rfl)
  | status extra => cases hexec; exact .inl rfl
  | linkReset extra => cases hexec; exact running (.inl s.linkReset_device)
  | transactionDiscarded d =>
    rw [exec, execTransactionDiscarded] at hexec
    split at hexec
    · cases hexec; exact running (.inl (by simp))
    · cases hexec
  | formatUnitReset =>
    cases hexec
    refine running ?_
    split
    · split
      · next f _ _ =>
        obtain hd | ⟨hd, hd'⟩ := h.device.unitReset_loses f
        · exact .inl hd
        · rw [hd, hd']; exact .inr (.formatFails (.inr rfl))
      · exact .inl rfl
    · exact .inl rfl

/-- Settles O56: the law of the device states is kept with that of the checkpoint unit, and each kind of command changes
the device state along its own edges. -/
theorem deviceStateFollowsItsTable : Obligations.DeviceStateFollowsItsTable := by
  intro i s t hdevice hckpt hexec
  have h : s.CkptLawful := ⟨hdevice, hckpt⟩
  refine ⟨(exec_ckptLawful hexec h).device, ?_⟩
  obtain hreply | ⟨k, rfl⟩ | hevent := command_kinds i
  · obtain ⟨⟨c, r⟩, hcr⟩ := Option.isSome_iff_exists.1 hreply
    rw [exec_of_replyOf hcr] at hexec
    cases hexec
    refine DeviceState.Ends.edge (endsOperation_of_reply hreply) ?_
    exact State.whenRunning_of (P := fun u => s.device.Ends u.device) (.same _) (h.replyArrives_ends c r)
  · rw [exec_requestCommand] at hexec
    cases hexec
    exact State.whenRunning_of (P := fun u => u.device = s.device ∨ DeviceEdge (requestCommand k) s.device u.device)
      (.inl rfl) (s.takeRequest_edge k)
  · exact hevent.exec_edge hexec h

end Sys2Proof.Machine

/-! SUPPORT. FORMAT: the unit reset and the start of its checkpoint, the slot erases and its failure (R27, R94, R113,
R146 to R150); with O53 and O54. -/
namespace Sys2Proof.Machine

/-! ### The unit reset -/

/-- R27: the unit table after the unit reset of a FORMAT taken in SERVICE: RETIRED and ERASING units stay so, and all
others are DIRTY. -/
theorem State.resetUnits_of_service {s : State} {f : FormatRec} (h : f.takenIn = .service) :
    s.resetUnits f = s.units.map fun p => (p.1,
      ⟨match p.2.state with | .retired c => .retired c | .erasing => .erasing | _ => .dirty,
        if f.keepWear = true then p.2.wear else 0, p.2.holds, false⟩) := by
  refine (if_pos h).trans (List.map_congr_left fun p _ => ?_)
  rw [resetKept]
  cases p.2.state <;> rfl

/-- R27: any other unit reset makes a table of unworn DIRTY units. -/
theorem State.resetUnits_of_other {s : State} {f : FormatRec} (h : f.takenIn ≠ .service) :
    s.resetUnits f = (usableUnits s.counts).map fun g => (g, ⟨.dirty, 0, 0, false⟩) := if_neg h

theorem dirtyQueues_getElem (us : List (Nat × UnitRec)) (c : Fin 4) : (dirtyQueues us)[c] =
    (us.filter fun p => p.2.state.isDirty && (chanOf p.1 == c)).map (·.1) := by
  simp [dirtyQueues]

theorem State.unitEraseInFlight_eq_false {s : State}
    (h : ∀ (c : Fin 4) (op : Op), s.channels[c].inFlight = some op → op.owner ≠ .unitManager) :
    s.unitEraseInFlight = false := by
  refine List.any_eq_false.2 fun c _ => ?_
  split
  · next op hop => simpa using h c op hop
  · simp

/-- R98, R148: the snapshot of the tables that the unit reset leaves. -/
theorem State.resetTables_takeSnapshot (s : State) (f : FormatRec) (k : Slot) : (s.resetTables f).takeSnapshot k =
    ⟨s.ckpt.durableGen + 1, k, s.counts, List.replicate f.l.toNat 0, { s.params with sMin := f.sMin },
      (s.resetUnits f).map fun p => (p.1, recordUnit p.2)⟩ := by
  have hgens : (s.resetTables f).map.map (·.generation) = List.replicate f.l.toNat 0 := List.map_replicate
  rw [State.takeSnapshot, hgens]
  rfl

/-- R148: the unit reset is due. -/
theorem exec_formatUnitReset {s : State} {fr : FormatRec} (hrun : s.resetLow = false) (hfr : s.formatRec = some fr)
    (hdue : s.unitResetDue fr = true) : exec .formatUnitReset s = .next (s.unitReset fr) := by
  simp [exec, execFormatUnitReset, State.whenRunning, hrun, hfr, hdue]

/-- R100, R101: on an ONLINE channel the operation waits there as the pending image operation. -/
theorem State.placeCheckpointOp_online {s : State} {k : Slot} {c : Fin 4} (hc : s.slotChannel k = c)
    (hon : s.channels[c].state = .online) (kind : OpKind) :
    s.placeCheckpointOp k kind = s.setPendingImage c (some ⟨kind, .checkpoint⟩) := by
  subst hc
  exact if_pos ((s.online_iff _).2 hon)

theorem State.slotA_place (s : State) : s.slotChannel .a = 0 ∧ s.slotIndex .a = 0 := Prod.mk.inj (s.slot_place .a)

/-- R113: with no durable image the FORMAT's checkpoint goes to slot A, on its ONLINE channel 0. -/
theorem State.startFormatCheckpoint_online {s : State} (hslot : s.ckpt.durableSlot = none)
    (hon : s.channels[(0 : Fin 4)].state = .online) : s.startFormatCheckpoint = { s with
      ckpt := { s.ckpt with flight := some ⟨.writing, .format, .a, s.takeSnapshot .a⟩ }
      channels := s.channels.set 0 { s.channels[(0 : Fin 4)] with
        pendingImage := some ⟨.writeImage 0 (s.takeSnapshot .a).image, .checkpoint⟩ } } := by
  obtain ⟨hchan, hindex⟩ := s.slotA_place
  have htarget : s.targetSlot = .a := by rw [State.targetSlot_eq, hslot]; rfl
  simp only [State.startFormatCheckpoint, htarget, hindex]
  rw [State.placeCheckpointOp_online (c := 0) (by exact hchan) (by exact hon)]
  rfl

/-- Settles O54: the unit reset is due, the tables are rebuilt, and the FORMAT's checkpoint starts on channel 0. -/
theorem formatUnitResetRebuildsTheTables : Obligations.FormatUnitResetRebuildsTheTables := by
  intro s fr hrun hfr hd hstep hckpt hon hidle
  have hdue : s.unitResetDue fr = true := by
    obtain hservice | hnone := hidle
    · simp [State.unitResetDue, hd, hstep, hckpt, hservice]
    · simp [State.unitResetDue, hd, hstep, hckpt, State.unitEraseInFlight_eq_false hnone]
  have hstart : (s.resetTables fr).startFormatCheckpoint = _ :=
    State.startFormatCheckpoint_online (congrArg Ckpt.durableSlot hckpt) hon
  refine ⟨(s.resetTables fr).startFormatCheckpoint, (s.resetTables fr).takeSnapshot .a,
    exec_formatUnitReset hrun hfr hdue, ?_⟩
  rw [hstart]
  refine ⟨?_, ?_, State.resetUnits_of_other (s := s), fun hservice => ?_, fun c => ?_⟩
  · rfl
  · rw [State.resetTables_takeSnapshot, hckpt]; rfl
  · exact State.resetUnits_of_service (s := s) hservice
  · exact dirtyQueues_getElem _ c

/-! ### FORMAT and its slot erases -/

/-- R147: on an ONLINE channel the erase of a slot waits there as the pending image operation. -/
theorem State.placeFormatErase_online {s : State} {k : Slot} {c : Fin 4} {i : Nat}
    (hplace : s.slotChannel k = c ∧ s.slotIndex k = i) (hon : s.channels[c].state = .online) :
    s.placeFormatErase k = { s with channels := s.channels.set c { s.channels[c] with
      pendingImage := some ⟨.erase i, .stateControl⟩ } } := by
  obtain ⟨rfl, rfl⟩ := hplace
  exact if_pos ((s.online_iff _).2 hon)

/-- R147: on a channel that is not ONLINE the erase of a slot is lost, and the FORMAT fails. -/
theorem State.placeFormatErase_offline {s : State} {k : Slot} {c : Fin 4} (hchan : s.slotChannel k = c)
    (hoff : s.channels[c].state ≠ .online) : s.placeFormatErase k = s.formatFails .channel := by
  rw [State.placeFormatErase, hchan, if_neg (by rwa [State.online_iff])]

/-- R150: a FORMAT that fails changes the device state, the FORMAT record and the link. -/
theorem State.formatFails_eq {s : State} {fr : FormatRec} (hfr : s.formatRec = some fr) (why : FormatReason) :
    s.formatFails why =
      { s with device := .failed .slot, formatRec := none, link := (s.formatFails why).link } := by
  simp only [State.formatFails, hfr]
  split
  · unfold State.complete; split <;> rfl
  · rfl

/-- R146: a FORMAT with no checkpoint in flight is accepted. -/
theorem formatEffect_starts {s : State} (hflight : s.ckpt.flight = none) (f : Frame) : formatEffect f s =
    (({ s with device := .formatting, formatRec := some ⟨.host f.tag, f.argA, f.argB, f.flag0, s.device, .eraseB⟩ } :
      State).placeFormatErase .b).settle none := by
  simp only [formatEffect, hflight]
  rfl

/-- R150: what the failure of a FORMAT with the record `fr` at step `step` makes of `s`. -/
structure State.FormatFailed (s t : State) (fr : FormatRec) (why : FormatReason) (step : FormatStep) : Prop where
  frame : t = { s with device := .failed .slot, formatRec := none, link := t.link }
  host : ∀ tag, fr.origin = .host tag → tag ∈ s.link.openTags →
    t.link = s.link.complete tag (formatFailedRecord tag why step)
  orphaned : fr.origin = .orphaned → t.link = s.link

/-- R150: the FORMAT fails at the step it has come to. -/
theorem State.formatFails_failed (s : State) (fr : FormatRec) (why : FormatReason) (step : FormatStep) :
    s.FormatFailed ((s.setFormatRec (some { fr with step := step })).formatFails why) fr why step where
  frame := State.formatFails_eq (s := s.setFormatRec (some { fr with step := step })) rfl why
  host tag ho hopen := by
    rw [State.formatFails_of_host (fr := { fr with step := step }) rfl ho,
      State.complete_of_open (by simpa using hopen)]
    rfl
  orphaned ho := by
    rw [State.formatFails_of_orphaned (fr := { fr with step := step }) rfl ho]
    rfl

theorem State.setFormatRec_self {s : State} {fr : FormatRec} (hfr : s.formatRec = some fr) :
    s.setFormatRec (some fr) = s := by rw [← hfr]; rfl

/-- R123, R147, R150: the replies to a FORMAT's slot erase in flight. -/
theorem exec_formatSlotErase {s : State} {c : Fin 4} {op : Op} {j : Nat} (hrun : s.resetLow = false)
    (hop : s.channels[c].inFlight = some op) (howner : op.owner = .stateControl) (hkind : op.kind = .erase j) :
    exec (.formatSlotEraseDone c) s = .next ((s.endOp c).formatEraseDone.settle (some c)) ∧
    exec (.formatSlotEraseFail c) s = .next (((s.endOp c).formatFails .erase).settle (some c)) := by
  obtain ⟨kind, owner, start⟩ := op
  cases hkind; cases howner
  constructor
  · rw [exec_accepted (r := .done) rfl hrun hop rfl]; rfl
  · rw [exec_accepted (r := .failErase) rfl hrun hop rfl]; rfl

section
variable {s : State} {fr : FormatRec} (hfr : s.formatRec = some fr)
include hfr

/-- R147: with slot B erased the erase of slot A is placed on channel 0. -/
theorem State.formatEraseDone_eraseB_online (hstep : fr.step = .eraseB)
    (hon : s.channels[(0 : Fin 4)].state = .online) : s.formatEraseDone = { s with
      formatRec := some { fr with step := .eraseA }
      channels := s.channels.set 0 { s.channels[(0 : Fin 4)] with
        pendingImage := some ⟨.erase 0, .stateControl⟩ } } := by
  simp only [State.formatEraseDone, hfr, hstep]
  exact State.placeFormatErase_online (State.slotA_place _) hon

/-- R147, R150: with channel 0 not ONLINE the erase of slot A is lost, and the FORMAT fails at that step. -/
theorem State.formatEraseDone_eraseB_offline (hstep : fr.step = .eraseB)
    (hoff : s.channels[(0 : Fin 4)].state ≠ .online) : s.formatEraseDone =
      (s.setFormatRec (some { fr with step := .eraseA })).formatFails .channel := by
  simp only [State.formatEraseDone, hfr, hstep]
  exact State.placeFormatErase_offline (State.slotA_place _).1 hoff

/-- R94, R147: with slot A erased the durable state is cleared. -/
theorem State.formatEraseDone_eraseA (hstep : fr.step = .eraseA) : s.formatEraseDone =
      { s with formatRec := some { fr with step := .imageWrite }, ckpt := ⟨0, none, [], [], s.ckpt.flight⟩ } := by
  simp only [State.formatEraseDone, hfr, hstep]
  rfl

end

/-- Settles O53: FORMAT places the erase of slot B, or fails; and so does the reply to each slot erase, step by step. -/
theorem formatRunsItsSteps : Obligations.FormatRunsItsSteps := by
  refine ⟨?_, ?_⟩
  · intro s f rest hp hflight b fr
    let started : State := { s.taken rest with device := .formatting, formatRec := some fr }
    have hexec : exec .format s = .next ((started.placeFormatErase .b).settle none) :=
      (exec_of_passes hp).trans (congrArg _ (formatEffect_starts (s := s.taken rest) hflight f))
    have hplace : started.slotChannel .b = b.1 ∧ started.slotIndex .b = b.2 := started.slotB_place
    refine ⟨fun hon => ?_, fun hoff => ?_⟩
    · rw [hexec, State.placeFormatErase_online hplace hon]
      rfl
    · rw [hexec, State.placeFormatErase_offline hplace.1 hoff, State.formatFails_of_host (s := started) rfl rfl,
        State.complete_of_open (by exact hp.opened)]
      rfl
  · intro s c op j fr hrun hop howner hkind hfr idle fails
    have hfr' : idle.formatRec = some fr := hfr
    obtain ⟨hdone, hfail⟩ : exec (.formatSlotEraseDone c) s = .next (idle.formatEraseDone.settle (some c)) ∧
        exec (.formatSlotEraseFail c) s = .next ((idle.formatFails .erase).settle (some c)) :=
      exec_formatSlotErase hrun hop howner hkind
    have hstate : idle.channels[(0 : Fin 4)].state = s.channels[(0 : Fin 4)].state := s.endOp_channel_state c 0
    have hfails (why : FormatReason) (step : FormatStep) {t : State} {i : Instr} (ht : idle.FormatFailed t fr why step)
        (hexec : exec i s = .next (t.settle (some c))) : fails why.byte step.byte i :=
      ⟨t, hexec, ht.frame, ht.host, ht.orphaned⟩
    have hfailed : idle.FormatFailed (idle.formatFails .erase) fr .erase fr.step := by
      simpa [State.setFormatRec_self hfr'] using idle.formatFails_failed fr .erase fr.step
    refine ⟨fun hstep hon => ?_, fun hstep hoff => ?_, fun hstep => ?_, fun hstep => ?_, fun hstep => ?_⟩
    · rw [hdone, State.formatEraseDone_eraseB_online hfr' hstep (hstate.trans hon)]
    · rw [State.formatEraseDone_eraseB_offline hfr' hstep (hstate ▸ hoff)] at hdone
      exact hfails .channel .eraseA (idle.formatFails_failed fr .channel .eraseA) hdone
    · rw [hdone, State.formatEraseDone_eraseA hfr' hstep]
    · exact hfails .erase .eraseB (hstep ▸ hfailed) hfail
    · exact hfails .erase .eraseA (hstep ▸ hfailed) hfail

end Sys2Proof.Machine

/-! SUPPORT. ENTER_SERVICE and LEAVE_SERVICE (R152, R153, R76); with O55. -/
namespace Sys2Proof.Machine

theorem State.holdsInUse_eq_zero {s : State} (h : ∀ i : Fin 64, (s.holds[i]).entry = none) : s.holdsInUse = 0 := by
  simpa [State.holdsInUse] using h

/-- R152: without a hold, a move and a parked BIND the device becomes SERVICE. -/
theorem enterServiceEffect_enters {s : State} (hholds : ∀ i : Fin 64, (s.holds[i]).entry = none)
    (hmoves : ∀ c : Fin 4, s.moves[c] = none) (hwaiters : s.waiters = []) (f : Frame) :
    enterServiceEffect f s = (s.setDevice .service).completePlain f .ok := by
  have hbusy : (((List.finRange 4).any fun c => (s.moves[c]).isSome) || !s.waiters.isEmpty) = false := by
    simp [hmoves, hwaiters]
  rw [enterServiceEffect, State.holdsInUse_eq_zero hholds, if_neg (by decide), hbusy, if_neg (by decide)]

/-- R156, R158: a request that changes the device state and completes OK. -/
theorem State.setDevice_completePlain {s : State} {f : Frame} (rest : List Frame) (hopen : f.tag ∈ s.link.openTags)
    (d : DeviceState) : ((s.taken rest).setDevice d).completePlain f .ok =
      { s.answered f rest (emptyRecord f 0) with device := d } := by
  rw [State.completePlain, State.complete_of_open (by exact hopen)]
  rfl

/-- Settles O55: each request passes its checks, changes the device state and completes; after a LEAVE_SERVICE the four
channels are evaluated in turn. -/
theorem serviceIsEnteredAndLeft : Obligations.ServiceIsEnteredAndLeft := by
  refine fun s f rest => ⟨fun hp hholds hmoves hwaiters => ?_, fun hp => ?_⟩
  · have henter := enterServiceEffect_enters (s := s.taken rest) hholds hmoves hwaiters f
    rw [State.setDevice_completePlain rest hp.opened] at henter
    exact (exec_of_passes hp).trans (congrArg _ henter)
  · have hleave : leaveServiceEffect f (s.taken rest) = _ :=
      congrArg (fun t : State => (t.evaluateAll [0, 1, 2, 3]).settle none)
        (State.setDevice_completePlain rest hp.opened .ready)
    exact (exec_of_passes hp).trans (congrArg _ hleave)

end Sys2Proof.Machine

/-! SUPPORT. Events that are not enabled, and RESET_N low (R138, R170; logs 1, 3, 20, 21); with O7. -/
namespace Sys2Proof.Machine

/-! ### Events that are not enabled -/

section
variable {s : State} (hrun : s.resetLow = false)
include hrun

theorem State.whenRunning_high (f : State → State) : s.whenRunning f = f s := by
  rw [State.whenRunning, hrun]; rfl

theorem exec_holdExpiry_early {i : Fin 64}
    (h : ∀ e, (s.holds[i]).entry = some e → deadlinePassed s.tick e.start e.lifetime.toNat = false) :
    exec (.holdExpiry i) s = .next s := by
  rw [exec, execHoldExpiry, State.whenRunning_high hrun]
  split
  · next e he => rw [h e he]; rfl
  · rfl

theorem exec_operationDeadline_early {c : Fin 4}
    (h : ∀ op, s.channels[c].inFlight = some op → deadlinePassed s.tick op.start op.kind.deadline = false) :
    exec (.operationDeadline c) s = .next s := by
  rw [exec, execOperationDeadline, State.whenRunning_high hrun]
  split
  · next op hop => rw [h op hop]; rfl
  · rfl

theorem exec_formatUnitReset_early (h : ∀ f, s.formatRec = some f → s.unitResetDue f = false) :
    exec .formatUnitReset s = .next s := by
  rw [exec, execFormatUnitReset, State.whenRunning_high hrun]
  split
  · next f hf => rw [h f hf]; rfl
  · rfl

/-- R157: a request row with an empty intake list takes nothing. -/
theorem exec_requestCommand_empty (k : ReqCode) (h : s.link.intake = []) : exec (requestCommand k) s = .next s := by
  rw [exec_requestCommand, State.whenRunning_high hrun, State.takeRequest, h]

/-- R157: a request row leaves a frame of another request's code at the head. -/
theorem exec_requestCommand_other {k j : ReqCode} {f : Frame} {rest : List Frame} (h : s.link.intake = f :: rest)
    (hcode : decodeReqCode f.code = some j) (hne : j ≠ k) : exec (requestCommand k) s = .next s := by
  rw [exec_requestCommand, State.whenRunning_high hrun, State.takeRequest, h]
  simp only [hcode, if_neg hne]

end

/-! ### RESET_N low -/

section
variable {s : State} (hlow : s.resetLow = true)
include hlow

theorem State.whenRunning_low (f : State → State) : s.whenRunning f = s := by
  rw [State.whenRunning, hlow]; rfl

/-- R170: while RESET_N is low a transaction shifts out 0x00 for each of its bytes. -/
theorem State.shiftOut_low {bs : List Byte} {n : Nat} (hn : bs.length = n) :
    s.shiftOut bs = { s with miso := zeros n } := by
  rw [State.shiftOut, if_pos hlow, hn]; rfl

/-- R138, R170: and it has no other effect. -/
theorem State.whenRunning_shiftOut_low {bs : List Byte} {n : Nat} (hn : bs.length = n) (f : State → State) :
    (s.whenRunning f).shiftOut bs = { s with miso := zeros n } := by
  rw [State.whenRunning_low hlow, State.shiftOut_low hlow hn]

/-- R138: while RESET_N is low no reply, request, expiry, tick or unit reset reaches a block. -/
theorem exec_low {i : Instr} (hi : (replyOf i).isSome = true ∨ (∃ k, i = requestCommand k) ∨ (∃ j, i = .holdExpiry j) ∨
    (∃ c, i = .operationDeadline c) ∨ i = .tick ∨ i = .formatUnitReset) : exec i s = .next s := by
  have low (f : State → State) : (.next (s.whenRunning f) : Host.Outcome State Fault Refusal) = .next s := by
    rw [State.whenRunning_low hlow]
  obtain hreply | ⟨k, rfl⟩ | ⟨j, rfl⟩ | ⟨c, rfl⟩ | rfl | rfl := hi
  · obtain ⟨⟨c, r⟩, hcr⟩ := Option.isSome_iff_exists.1 hreply
    exact (exec_of_replyOf hcr s).trans (low _)
  · exact (exec_requestCommand k s).trans (low _)
  · exact low _
  · exact low _
  · exact low _
  · exact low _

theorem exec_request_low (raw : RawFrame) (n : Nat) :
    exec (.request raw n) s = .next { s with miso := zeros (9 + n) } :=
  congrArg Host.Outcome.next (State.whenRunning_shiftOut_low hlow (by simp) _)

theorem exec_fetch_low (n : Nat) : exec (.fetch n) s = .next { s with miso := zeros (13 + n) } :=
  congrArg Host.Outcome.next (State.whenRunning_shiftOut_low hlow (by simp; omega) _)

theorem exec_status_low (n : Nat) : exec (.status n) s = .next { s with miso := zeros (33 + n) } :=
  congrArg Host.Outcome.next (State.shiftOut_low hlow (by simp; omega))

theorem exec_linkReset_low (n : Nat) : exec (.linkReset n) s = .next { s with miso := zeros (1 + n) } :=
  congrArg Host.Outcome.next (State.whenRunning_shiftOut_low hlow (by simp) _)

theorem exec_discard_low {d : Discard} (hd : d.wellFormed = true) {n : Nat} (hn : (s.discardBytes d).length = n) :
    exec (.transactionDiscarded d) s = .next { s with miso := zeros n } := by
  rw [exec, execTransactionDiscarded, if_pos hd, State.whenRunning_shiftOut_low hlow hn]

end

/-- R154: the kind bytes of the four transactions. -/
theorem knownKind_iff (k : Byte) : knownKind k = true ↔ k = 1 ∨ k = 2 ∨ k = 3 ∨ k = 4 := by
  revert k; decide

/-- Log 21: a term that discards a transaction of a known kind for its kind byte faults. -/
theorem exec_discard_known (s : State) {k : Byte} (hk : knownKind k = true) (n : Nat) :
    exec (.transactionDiscarded (.unknownKind k n)) s = .fault .illFormedCommand := by
  rw [exec, execTransactionDiscarded, if_neg (by simp [Discard.wellFormed, hk])]

/-- Settles O7: each event that is not enabled finds nothing to do; with RESET_N low no event reaches a block. -/
theorem eventsNotEnabledChangeNothing : Obligations.EventsNotEnabledChangeNothing := by
  refine ⟨fun s hrun => ⟨fun i => exec_holdExpiry_early hrun, fun c => exec_operationDeadline_early hrun,
      exec_formatUnitReset_early hrun, exec_requestCommand_empty hrun,
      fun k j f rest => exec_requestCommand_other hrun⟩,
    fun s hlow => ⟨fun i => exec_low hlow, exec_request_low hlow, exec_fetch_low hlow, exec_status_low hlow,
      exec_linkReset_low hlow, fun k n => ⟨fun hk => ?_, fun hk => exec_discard_known s ((knownKind_iff k).2 hk) n⟩,
      fun n => exec_discard_low hlow rfl ?_, fun n => exec_discard_low hlow rfl ?_,
      fun n => exec_discard_low hlow rfl ?_⟩⟩
  · have hunknown : ¬ knownKind k = true := by simpa [knownKind_iff] using hk
    exact exec_discard_low hlow (by simpa [Discard.wellFormed] using hunknown) (by simp [State.discardBytes])
  · simp [State.discardBytes]
  · simp [State.discardBytes]
  · simp [State.discardBytes]

end Sys2Proof.Machine
